-- ==== Sys2Proof/Word.lean ====
section
/-! DEFINITION. The plain words of the block: bytes, byte sequences and 3-bit counters (00_scope.md R11, R12). -/

namespace Sys2Proof

/-- A byte is 8 bits (R11). -/
abbrev Byte := BitVec 8

/-- A byte sequence; index 0 is the byte that is transmitted or received first (R11). -/
abbrev Bytes := List Byte

/-- A sequence or acknowledgement counter: 3 bits, arithmetic modulo 8 (R9, R12). -/
abbrev Count3 := BitVec 3

end Sys2Proof
end

