-- ==== Sys2Proof/Config.lean ====
section
/-! DEFINITION. What an implementation fixes: the parameters of an instance (00_scope.md R8), the constants of the wire
formats, each under a name so that a claim can name the value it rests on (R10), and the free values. -/

namespace Sys2Proof

/-- The node kinds of a transport chain (46_chain.md R390). -/
inductive NodeKind where
  | consumer | bcsp | h4Adapter | physicalSink
  deriving DecidableEq, Repr, Inhabited

/-- The five values of the two sequencing registers (10_state.md R40). -/
inductive LinkState where
  | uninitialized | initialized | waitPeerActive | active | lowPower
  deriving DecidableEq, Repr, Inhabited

/-- The implementation parameters of 00_scope.md R8, the operands of SYS.INIT (70_reset_and_hazards.md R490). -/
structure Params where
  /-- `W0`, the proposed window, 1..7 -/
  w0 : Nat
  /-- `F0`, the proposed software-flow-control enable -/
  f0 : Bool
  /-- `C0`, the proposed CRC enable -/
  c0 : Bool
  /-- `V0`, the proposed version, 0..3 -/
  v0 : BitVec 2
  /-- `RETRY_LIMIT` (R283) -/
  retryLimit : Nat
  /-- `WRITE_RETRY_LIMIT` (R397) -/
  writeRetryLimit : Nat
  /-- `VENDOR_RELIABLE` (R270) -/
  vendorReliable : Bool
  /-- `CHAIN`, node[0] first (R390) -/
  chain : List NodeKind
  /-- `H4_VENDOR_CODE` (R142) -/
  h4VendorCode : Option Byte
  /-- `T_RTX`, read by no rule (R506) -/
  tRtx : Nat
  /-- `T_WAKE`, read by no rule (R506) -/
  tWake : Nat
  /-- `T_GUARD`, read by no rule (R506) -/
  tGuard : Nat
  /-- NEGOTIATE (R330), a total function of the received field and the proposal, as the list of the points at which it
  differs from the spec's value for it, the echo: received field, proposal, answer (notes/assumptions/31.md) -/
  negotiation : List (Option Byte × Byte × Option Byte)
  deriving DecidableEq, Repr

/-- The constraints R8 and R390 put on the parameters: `W0` in 1..7; a chain of at least two nodes, the consumer end
first and the physical sink last. -/
def Params.wf (p : Params) : Bool :=
  decide (1 ≤ p.w0) && decide (p.w0 ≤ 7) && decide (2 ≤ p.chain.length)
    && decide (p.chain.head? = some .consumer) && decide (p.chain.getLast? = some .physicalSink)

/-- A row of the HCI header table (R143). -/
structure SizerRow where
  hdrSize : Nat
  lenOff : Nat
  /-- the length field has two bytes, else one -/
  wide : Bool
  lenMask : BitVec 16
  deriving DecidableEq, Repr

/-- The register values that are unspecified after SYS.TEARDOWN (R492, U19), with the bounds their types keep
(R34, R37): `windowPred` is the window less one. -/
structure Unspecified where
  seq : Count3
  ack : Count3
  rack : Count3
  credit : Fin 8
  retryCount : Nat
  windowPred : Fin 7
  useCrc : Bool
  swFlow : Bool
  cfgPeer : Option Byte
  localState : LinkState
  peerState : LinkState
  ackRequired : Bool
  wakeupPending : Bool
  guardWait : Bool
  halted : Bool
  deriving Inhabited

namespace Config

/-- The chain of a BCSP transport (R390). -/
def bcspChain : List NodeKind := [.consumer, .bcsp, .physicalSink]

/-- The chain of a classic H4 transport (R390, D34). -/
def h4Chain : List NodeKind := [.consumer, .h4Adapter, .physicalSink]

/-- DESIGN CHOICE (notes/assumptions/4.md): the parameters of the instance State.reset stands for. The spec gives no
value for any of them (R8). -/
def params : Params where
  w0 := 4
  f0 := false
  c0 := false
  v0 := 0
  retryLimit := 1
  writeRetryLimit := 1
  vendorReliable := true
  chain := bcspChain
  h4VendorCode := none
  tRtx := 0
  tWake := 0
  tGuard := 0
  negotiation := []

/-- Free value (notes/assumptions/12.md): the registers that R492 leaves unspecified after the n-th teardown. -/
opaque unspecified : Nat → Unspecified

/-! ### SLIP symbols (R131): the sentinel, the escape and the flow-control bytes are the source's, the four second
escape bytes are PRESUMED (G1; notes/assumptions/21.md). -/

def slipEnd : Byte := 0xC0
def slipEsc : Byte := 0xDB
def xon : Byte := 0x11
def xoff : Byte := 0x13
def escEnd : Byte := 0xDC
def escEsc : Byte := 0xDD
def escXon : Byte := 0xDE
def escXoff : Byte := 0xDF

/-! ### BCSP header (R134): the widths are the source's, the bit positions are PRESUMED (G2, G3). -/

/-- lowest bit of `seq` in `b0` -/
def hdrSeqAt : Nat := 0
/-- lowest bit of `ack` in `b0` -/
def hdrAckAt : Nat := 3
/-- bit of `crc_present` in `b0` -/
def hdrCrcAt : Nat := 6
/-- bit of `reliable` in `b0` -/
def hdrRelAt : Nat := 7
/-- lowest bit of `type` in `b1` -/
def hdrTypeAt : Nat := 0
/-- lowest bit of the low part of `length` in `b1` -/
def hdrLenLowAt : Nat := 4
/-- how many bits of `length` are its low part in `b1`; the other eight are `b2` (R136, G3) -/
def hdrLenLowBits : Nat := 4

/-- The longest payload the 12-bit length field can express (R9). -/
def maxPayload : Nat := 4095

/-! ### Packet type codes (R137), PRESUMED (G4). -/

def typeAck : BitVec 4 := 0
def typeCmd : BitVec 4 := 1
def typeAcl : BitVec 4 := 2
def typeEvt : BitVec 4 := 4
def typeIso : BitVec 4 := 5
def typeVnd : BitVec 4 := 14
def typeLink : BitVec 4 := 15

/-! ### CRC (R230, R231): the polynomial is the source's by name; its value, the initial register and the absence of a
final exclusive-or are PRESUMED (G10, G11). -/

/-- The bit-reversed form of the CCITT polynomial 0x1021. -/
def crcPolyReflected : BitVec 16 := 0x8408
def crcInit : BitVec 16 := 0xFFFF

/-- lowest bit of the part of the CRC that is sent first (R138, G5) -/
def crcFirstAt : Nat := 8
/-- lowest bit of the part of the CRC that is sent second (R138, G5) -/
def crcSecondAt : Nat := 0

/-! ### Link-control payloads (R139), PRESUMED (G6): first and second byte of each message. -/

def lcSync : Byte × Byte := (0x01, 0x7E)
def lcSyncResp : Byte × Byte := (0x02, 0x7D)
def lcConf : Byte × Byte := (0x03, 0xFC)
def lcConfResp : Byte × Byte := (0x04, 0x7B)
def lcWakeup : Byte × Byte := (0x05, 0xFA)
def lcWoken : Byte × Byte := (0x06, 0xF9)
def lcSleep : Byte × Byte := (0x07, 0x78)

/-! ### The configuration byte (R140): the fields are the source's, the positions are PRESUMED (G7). -/

def cfgWindowAt : Nat := 0
def cfgFlowAt : Nat := 3
def cfgCrcAt : Nat := 4
def cfgVersionAt : Nat := 5

/-! ### H4 type bytes (R142), PRESUMED (G8). -/

def h4Cmd : Byte := 0x01
def h4Acl : Byte := 0x02
def h4Evt : Byte := 0x04
def h4Iso : Byte := 0x05

/-! ### The HCI header table (R143): ACL's row and ISO's mask are the source's, the others are PRESUMED (G9). -/

def sizerCmd : SizerRow := ⟨3, 2, false, 0x00FF⟩
def sizerAcl : SizerRow := ⟨4, 2, true, 0xFFFF⟩
def sizerEvt : SizerRow := ⟨2, 1, false, 0x00FF⟩
def sizerIso : SizerRow := ⟨4, 2, true, 0x3FFF⟩

end Config

end Sys2Proof
end

