-- ==== Sys2Proof/Syntax.lean ====
section
/-! DEFINITION. The syntax of the block: tags, units, headers, link-control messages, fault reports, and `Instr`, one
constructor per row of spec/opcode_table.json in the table's order (30_encoding.md R148). -/

namespace Sys2Proof

/-- The upper-layer tags and the two private tags (30_encoding.md R137, 43_arq.md R270). -/
inductive Tag where
  | cmd | acl | evt | iso | vnd | ack | link
  deriving DecidableEq, Repr, Inhabited

/-- A unit: a tag and a payload, held unframed in a queue (00_scope.md R17, 10_state.md R47). -/
structure QUnit where
  tag : Tag
  payload : Bytes
  deriving DecidableEq, Repr, Inhabited

/-- The header BCSP.UNPACK returns (42_bcsp_crc.md R234). -/
structure Header where
  seq : Count3
  ack : Count3
  crcPresent : Bool
  reliable : Bool
  type : BitVec 4
  length : BitVec 12
  deriving DecidableEq, Repr, Inhabited

/-- The fields of a received header word other than its type, the stored checksum among them (30_encoding.md R134). -/
structure HdrFields where
  seq : Count3
  ack : Count3
  crcPresent : Bool
  reliable : Bool
  length : BitVec 12
  checksum : Byte
  deriving DecidableEq, Repr, Inhabited

/-- The seven link-control messages by name (30_encoding.md R139), as LINK.SEND takes them (44_link_fsm.md R327). -/
inductive LcName where
  | sync | syncResp | conf | confResp | wakeup | woken | sleep
  deriving DecidableEq, Repr, Inhabited

/-- The result of `lc_decode` (30_encoding.md R141). -/
inductive LcMsg where
  | sync | syncResp
  | conf (cfg : Option Byte) | confResp (cfg : Option Byte)
  | wakeup | woken | sleep | unknown
  deriving DecidableEq, Repr, Inhabited

/-- The `info` of a CHECKSUM report (60_exceptions.md R441). -/
inductive ChecksumCause where
  | header | lengthShort | lengthOverrun
  deriving DecidableEq, Repr, Inhabited

/-- A report on the fault signal: a code with the `info` R441 gives it (60_exceptions.md R440, R441). -/
inductive Report where
  | checksum (cause : ChecksumCause)
  | crc
  | outOfSequence (received expected : Count3)
  | retryLimit (retryCount : Nat)
  | alloc
  | write (written : Nat)
  | protocolSyncWhileActive
  deriving DecidableEq, Repr, Inhabited

/-- A frame the peer sends, as the PEER line of the trace notation describes it (30_encoding.md R147): a BCSP frame
with a right checksum and, where `crc` is set, a right CRC, SLIP-encoded with or without flow-control escaping. -/
structure PeerFrame where
  type : BitVec 4
  reliable : Bool
  seq : Count3
  ack : Count3
  crc : Bool
  payload : Bytes
  escapeXonXoff : Bool
  deriving DecidableEq, Repr, Inhabited

/-- The layers that decode a wire format (30_encoding.md R130, R148): SLIP symbols (SLIP1, SLIP2), BCSP frames by their
header (BCSP_HDR), link-control payloads (LC2, LC3), the configuration byte (CFG), H4 units by their type byte (H4T). -/
inductive WireFormat where
  | slip | bcsp | lc | cfg | h4t
  deriving DecidableEq, Repr, Inhabited

/-- Why a byte sequence is no encoding of a wire format. -/
inductive DecodeReject where
  /-- there is no byte to decode -/
  | noBytes
  /-- more bytes than one SLIP symbol or one configuration byte has -/
  | trailingBytes
  /-- fewer than the 4 bytes of a BCSP header (R234 `Truncated`) -/
  | shortHeader
  deriving DecidableEq, Repr, Inhabited

/-- The instructions: the operations, helpers and pseudo-operations of format OP, then the wire encodings, each of
which stands for the receipt of that encoding at the layer that decodes it (R148; notes/assumptions/18.md). -/
inductive Instr where
  /-- SLIP.ENCODE (41_slip.md R200) -/
  | slipEncode (payload : Bytes) (escapeXonXoff : Bool)
  /-- SLIP.DECODE (41_slip.md R201) -/
  | slipDecode (frame : Bytes)
  /-- SLIP.COLLECT (41_slip.md R202) -/
  | slipCollect (buf : Option Bytes) (incoming : Bytes)
  /-- SLIP.RESYNC (41_slip.md R204) -/
  | slipResync (incoming : Bytes) (i : Nat)
  /-- CRC.UPDATE (42_bcsp_crc.md R230) -/
  | crcUpdate (reg : BitVec 16) (d : Byte)
  /-- CRC16 (42_bcsp_crc.md R231) -/
  | crc16 (bs : Bytes)
  /-- HDR.CHECKSUM (42_bcsp_crc.md R232) -/
  | hdrChecksum (b0 b1 b2 : Byte)
  /-- BCSP.PACK (42_bcsp_crc.md R233) -/
  | bcspPack (payload : Bytes) (type : BitVec 4) (reliable : Bool) (ack : Count3) (useCrc : Bool)
  /-- BCSP.UNPACK (42_bcsp_crc.md R234) -/
  | bcspUnpack (f : Bytes)
  /-- ARQ.CLASSIFY (43_arq.md R270) -/
  | arqClassify (tag : Tag)
  /-- UP.SEND (43_arq.md R271) -/
  | upSend (tag : Tag) (payload : Bytes)
  /-- TX.STEP (43_arq.md R272) -/
  | txStep
  /-- TX.FRAME (43_arq.md R273) -/
  | txFrame (u : QUnit) (reliable : Bool)
  /-- TX.ACKFRAME (43_arq.md R274) -/
  | txAckFrame
  /-- RX.FRAME (43_arq.md R277) -/
  | rxFrame (f : Bytes)
  /-- ARQ.RX_SEQ (43_arq.md R278) -/
  | arqRxSeq (n : Count3)
  /-- ARQ.RX_ACK (43_arq.md R279) -/
  | arqRxAck (a : Count3)
  /-- ARQ.DELIVER (43_arq.md R280) -/
  | arqDeliver (h : Header) (p : Bytes) (arqOn : Bool)
  /-- RTX.FIRE (43_arq.md R281) -/
  | rtxFire
  /-- RTX.WORK (43_arq.md R282) -/
  | rtxWork
  /-- RTX.TIMEOUT (30_encoding.md R147, 43_arq.md R282) -/
  | rtxTimeout
  /-- ARQ.TIMEOUT (43_arq.md R283) -/
  | arqTimeout
  /-- ARQ.RELOAD (43_arq.md R284) -/
  | arqReload
  /-- LINK.DISPATCH (44_link_fsm.md R320) -/
  | linkDispatch (m : LcMsg)
  /-- LINK.TIMEOUT (44_link_fsm.md R321) -/
  | linkTimeout
  /-- LINK.RX_SYNC (44_link_fsm.md R322) -/
  | linkRxSync
  /-- LINK.RX_SYNC_RESP (44_link_fsm.md R323) -/
  | linkRxSyncResp
  /-- LINK.RX_CONF (44_link_fsm.md R324) -/
  | linkRxConf (cfg : Option Byte)
  /-- LINK.RX_CONF_RESP (44_link_fsm.md R325) -/
  | linkRxConfResp (cfg : Option Byte)
  /-- LINK.ENTER_ACTIVE (44_link_fsm.md R326) -/
  | linkEnterActive
  /-- LINK.SEND (44_link_fsm.md R327) -/
  | linkSend (msg : LcName) (cfg : Option Byte)
  /-- NEGOTIATE (44_link_fsm.md R330) -/
  | negotiate (cfg : Option Byte)
  /-- PWR.RX_WAKEUP (45_power_fsm.md R361) -/
  | pwrRxWakeup
  /-- PWR.RX_WOKEN (45_power_fsm.md R362) -/
  | pwrRxWoken
  /-- PWR.RX_SLEEP (45_power_fsm.md R363) -/
  | pwrRxSleep
  /-- PWR.SLEEP_REQ (45_power_fsm.md R364) -/
  | pwrSleepReq
  /-- WAKE.FIRE (45_power_fsm.md R365) -/
  | wakeFire
  /-- WAKE.WORK (45_power_fsm.md R366) -/
  | wakeWork
  /-- WAKE.TIMEOUT (30_encoding.md R147, 45_power_fsm.md R366) -/
  | wakeTimeout
  /-- TX.WAKE (45_power_fsm.md R368) -/
  | txWake
  /-- GUARD.ELAPSE (45_power_fsm.md R369) -/
  | guardElapse
  /-- PWR.SEND_WAKEUP (45_power_fsm.md R370) -/
  | pwrSendWakeup
  /-- RUN (30_encoding.md R147, 43_arq.md R272) -/
  | run
  /-- PEER (30_encoding.md R147, 46_chain.md R396) -/
  | peer (d : PeerFrame)
  /-- CHAIN.NEXT (46_chain.md R391) -/
  | chainNext (i : Nat)
  /-- CHAIN.PREV (46_chain.md R391) -/
  | chainPrev (i : Nat)
  /-- CHAIN.SEND_BYTES (46_chain.md R392) -/
  | chainSendBytes (bs : Bytes)
  /-- CHAIN.RECV_FRAME (46_chain.md R393) -/
  | chainRecvFrame (tag : Tag) (p : Bytes)
  /-- RX.BYTES (46_chain.md R396) -/
  | rxBytes (bs : Bytes)
  /-- PHY.WRITE (46_chain.md R397) -/
  | phyWrite (bs : Bytes)
  /-- SIZER.LEN (47_h4_sizer.md R420) -/
  | sizerLen (t : Byte) (h : Bytes)
  /-- H4.SEND_FRAME (47_h4_sizer.md R422) -/
  | h4SendFrame (tag : Tag) (payload : Bytes)
  /-- H4.RECV_BYTES (47_h4_sizer.md R423) -/
  | h4RecvBytes (bs : Bytes)
  /-- SYS.INIT (70_reset_and_hazards.md R490) -/
  | sysInit (p : Params)
  /-- SYS.TEARDOWN (70_reset_and_hazards.md R492) -/
  | sysTeardown
  /-- raise_Fault (60_exceptions.md R446) -/
  | raiseFault (r : Report)
  /-- SLIP.END (30_encoding.md R131, on receipt 41_slip.md R202) -/
  | slipEnd
  /-- SLIP.ESC_END (30_encoding.md R131, on receipt 41_slip.md R201) -/
  | slipEscEnd
  /-- SLIP.ESC_ESC (30_encoding.md R131, on receipt 41_slip.md R201) -/
  | slipEscEsc
  /-- SLIP.ESC_XON (30_encoding.md R131, on receipt 41_slip.md R201) -/
  | slipEscXon
  /-- SLIP.ESC_XOFF (30_encoding.md R131, on receipt 41_slip.md R201) -/
  | slipEscXoff
  /-- SLIP.BADESC (30_encoding.md R144; `none` is an escape byte that nothing follows) -/
  | slipBadEsc (x : Option Byte)
  /-- SLIP.LIT (30_encoding.md R131, on receipt 41_slip.md R201) -/
  | slipLit (b : Byte)
  /-- BCSP.ACK (30_encoding.md R134, R137, on receipt 43_arq.md R277, R280) -/
  | bcspAck (h : HdrFields) (tail : Bytes)
  /-- BCSP.CMD (30_encoding.md R134, R137, on receipt 43_arq.md R277, R280) -/
  | bcspCmd (h : HdrFields) (tail : Bytes)
  /-- BCSP.ACL (30_encoding.md R134, R137, on receipt 43_arq.md R277, R280) -/
  | bcspAcl (h : HdrFields) (tail : Bytes)
  /-- BCSP.EVT (30_encoding.md R134, R137, on receipt 43_arq.md R277, R280) -/
  | bcspEvt (h : HdrFields) (tail : Bytes)
  /-- BCSP.ISO (30_encoding.md R134, R137, on receipt 43_arq.md R277, R280) -/
  | bcspIso (h : HdrFields) (tail : Bytes)
  /-- BCSP.VND (30_encoding.md R134, R137, on receipt 43_arq.md R277, R280) -/
  | bcspVnd (h : HdrFields) (tail : Bytes)
  /-- BCSP.LINK (30_encoding.md R134, R137, on receipt 43_arq.md R277, R280) -/
  | bcspLink (h : HdrFields) (tail : Bytes)
  /-- BCSP.RSVD3 (30_encoding.md R137, R144, on receipt 43_arq.md R280) -/
  | bcspRsvd3 (h : HdrFields) (tail : Bytes)
  /-- BCSP.RSVD6 (30_encoding.md R137, R144, on receipt 43_arq.md R280) -/
  | bcspRsvd6 (h : HdrFields) (tail : Bytes)
  /-- BCSP.RSVD7 (30_encoding.md R137, R144, on receipt 43_arq.md R280) -/
  | bcspRsvd7 (h : HdrFields) (tail : Bytes)
  /-- BCSP.RSVD8 (30_encoding.md R137, R144, on receipt 43_arq.md R280) -/
  | bcspRsvd8 (h : HdrFields) (tail : Bytes)
  /-- BCSP.RSVD9 (30_encoding.md R137, R144, on receipt 43_arq.md R280) -/
  | bcspRsvd9 (h : HdrFields) (tail : Bytes)
  /-- BCSP.RSVD10 (30_encoding.md R137, R144, on receipt 43_arq.md R280) -/
  | bcspRsvd10 (h : HdrFields) (tail : Bytes)
  /-- BCSP.RSVD11 (30_encoding.md R137, R144, on receipt 43_arq.md R280) -/
  | bcspRsvd11 (h : HdrFields) (tail : Bytes)
  /-- BCSP.RSVD12 (30_encoding.md R137, R144, on receipt 43_arq.md R280) -/
  | bcspRsvd12 (h : HdrFields) (tail : Bytes)
  /-- BCSP.RSVD13 (30_encoding.md R137, R144, on receipt 43_arq.md R280) -/
  | bcspRsvd13 (h : HdrFields) (tail : Bytes)
  /-- LC.SYNC (30_encoding.md R139, on receipt 44_link_fsm.md R322) -/
  | lcSync
  /-- LC.SYNC_RESP (30_encoding.md R139, on receipt 44_link_fsm.md R323) -/
  | lcSyncResp
  /-- LC.CONF (30_encoding.md R139, on receipt 44_link_fsm.md R324) -/
  | lcConf
  /-- LC.CONF_RESP (30_encoding.md R139, on receipt 44_link_fsm.md R325) -/
  | lcConfResp
  /-- LC.WAKEUP (30_encoding.md R139, on receipt 45_power_fsm.md R361) -/
  | lcWakeup
  /-- LC.WOKEN (30_encoding.md R139, on receipt 45_power_fsm.md R362) -/
  | lcWoken
  /-- LC.SLEEP (30_encoding.md R139, on receipt 45_power_fsm.md R363) -/
  | lcSleep
  /-- LC.CONF_CFG (30_encoding.md R139, R141, on receipt 44_link_fsm.md R324) -/
  | lcConfCfg (cfg : Byte)
  /-- LC.CONF_RESP_CFG (30_encoding.md R139, R141, on receipt 44_link_fsm.md R325) -/
  | lcConfRespCfg (cfg : Byte)
  /-- LC.UNKNOWN (30_encoding.md R141, R144, on receipt 44_link_fsm.md R320) -/
  | lcUnknown (p : Bytes)
  /-- CFG (30_encoding.md R140, committed by 44_link_fsm.md R326) -/
  | cfg (window : BitVec 3) (swFlow : Bool) (crc : Bool) (version : BitVec 2)
  /-- H4.CMD (30_encoding.md R142, on receipt 47_h4_sizer.md R423) -/
  | h4Cmd (rest : Bytes)
  /-- H4.ACL (30_encoding.md R142, on receipt 47_h4_sizer.md R423) -/
  | h4Acl (rest : Bytes)
  /-- H4.EVT (30_encoding.md R142, on receipt 47_h4_sizer.md R423) -/
  | h4Evt (rest : Bytes)
  /-- H4.ISO (30_encoding.md R142, on receipt 47_h4_sizer.md R423) -/
  | h4Iso (rest : Bytes)
  /-- H4.UNKNOWN (30_encoding.md R142, on receipt 47_h4_sizer.md R423) -/
  | h4Unknown (t : Byte) (rest : Bytes)
  deriving DecidableEq, Repr

end Sys2Proof
end

