-- ==== Sys2Proof/Decode.lean ====
section
/-! DEFINITION. The wire formats of 30_encoding.md: the bit fields of the BCSP header, of the configuration byte and of
the link-control payloads; the decoder of each layer, total on any bytes and rejecting by name; the encoder; and the
numbering of spec/opcode_table.json (R148). -/

namespace Sys2Proof

/-! ### The BCSP header (30_encoding.md R134 to R136, 42_bcsp_crc.md R232) -/

/-- HDR.CHECKSUM: the complement of the sum of the first three header bytes modulo 256 (R232). -/
def hdrChecksum (b0 b1 b2 : Byte) : Byte := ~~~(b0 + b1 + b2)

/-- `b0 = seq | ack << 3 | crc << 6 | reliable << 7` (R134, R233). -/
def hdrByte0 (seq ack : Count3) (crc reliable : Bool) : Byte :=
  (seq.setWidth 8 <<< Config.hdrSeqAt) ||| (ack.setWidth 8 <<< Config.hdrAckAt)
    ||| ((BitVec.ofBool crc).setWidth 8 <<< Config.hdrCrcAt)
    ||| ((BitVec.ofBool reliable).setWidth 8 <<< Config.hdrRelAt)

/-- `b1 = type | length[3:0] << 4` (R134, R136; the split of the length is `Config.hdrLenLowBits`). -/
def hdrByte1 (type : BitVec 4) (length : BitVec 12) : Byte :=
  (type.setWidth 8 <<< Config.hdrTypeAt) ||| ((length.extractLsb' 0 Config.hdrLenLowBits).setWidth 8 <<< Config.hdrLenLowAt)

/-- `b2 = length[11:4]` (R136). -/
def hdrByte2 (length : BitVec 12) : Byte := length.extractLsb' Config.hdrLenLowBits 8

def hdrSeq (b0 : Byte) : Count3 := b0.extractLsb' Config.hdrSeqAt 3
def hdrAck (b0 : Byte) : Count3 := b0.extractLsb' Config.hdrAckAt 3
def hdrCrc (b0 : Byte) : Bool := b0.getLsbD Config.hdrCrcAt
def hdrReliable (b0 : Byte) : Bool := b0.getLsbD Config.hdrRelAt
def hdrType (b1 : Byte) : BitVec 4 := b1.extractLsb' Config.hdrTypeAt 4

/-- `length = zext_12(b1[7:4]) | zext_12(b2) << 4` (R136). -/
def hdrLength (b1 b2 : Byte) : BitVec 12 :=
  (b1.extractLsb' Config.hdrLenLowAt Config.hdrLenLowBits).setWidth 12 ||| (b2.setWidth 12 <<< Config.hdrLenLowBits)

/-- The fields of a header word other than its type (R134). -/
def hdrFields (b0 b1 b2 b3 : Byte) : HdrFields where
  seq := hdrSeq b0
  ack := hdrAck b0
  crcPresent := hdrCrc b0
  reliable := hdrReliable b0
  length := hdrLength b1 b2
  checksum := b3

/-- The four bytes of a header word with this type, its stored checksum as it stands (R134). -/
def hdrWordBytes (type : BitVec 4) (h : HdrFields) : Bytes :=
  [hdrByte0 h.seq h.ack h.crcPresent h.reliable, hdrByte1 type h.length, hdrByte2 h.length, h.checksum]

/-! ### Link-control payloads (30_encoding.md R139, R141) -/

/-- The two magic bytes of a message (R139). -/
def lcMagic : LcName → Byte × Byte
  | .sync => Config.lcSync
  | .syncResp => Config.lcSyncResp
  | .conf => Config.lcConf
  | .confResp => Config.lcConfResp
  | .wakeup => Config.lcWakeup
  | .woken => Config.lcWoken
  | .sleep => Config.lcSleep

/-- The payload of a message, followed by the configuration byte where there is one (R139, R327). -/
def lcPayload (m : LcName) (cfg : Option Byte) : Bytes :=
  (lcMagic m).1 :: (lcMagic m).2 :: cfg.toList

/-- `lc_decode` on a payload of two bytes (R141). -/
def lcDecode2 (m : Byte × Byte) : LcMsg :=
  if m = lcMagic .sync then .sync
  else if m = lcMagic .syncResp then .syncResp
  else if m = lcMagic .conf then .conf none
  else if m = lcMagic .confResp then .confResp none
  else if m = lcMagic .wakeup then .wakeup
  else if m = lcMagic .woken then .woken
  else if m = lcMagic .sleep then .sleep
  else .unknown

/-- `lc_decode` on a payload of three bytes (R141). -/
def lcDecode3 (m : Byte × Byte) (cfg : Byte) : LcMsg :=
  if m = lcMagic .conf then .conf (some cfg)
  else if m = lcMagic .confResp then .confResp (some cfg)
  else .unknown

/-- `lc_decode` (R141): exact recognition of a link-control payload; anything else is `unknown`. -/
def lcDecode : Bytes → LcMsg
  | [a, b] => lcDecode2 (a, b)
  | [a, b, c] => lcDecode3 (a, b) c
  | _ => .unknown

/-! ### The configuration byte (30_encoding.md R140) -/

/-- `window | sw_flow << 3 | crc << 4 | version << 5`; bit 7 is sent as 0 (R39, R140). -/
def cfgByte (window : BitVec 3) (swFlow crc : Bool) (version : BitVec 2) : Byte :=
  (window.setWidth 8 <<< Config.cfgWindowAt) ||| ((BitVec.ofBool swFlow).setWidth 8 <<< Config.cfgFlowAt)
    ||| ((BitVec.ofBool crc).setWidth 8 <<< Config.cfgCrcAt) ||| (version.setWidth 8 <<< Config.cfgVersionAt)

def cfgWindow (c : Byte) : BitVec 3 := c.extractLsb' Config.cfgWindowAt 3
def cfgSwFlow (c : Byte) : Bool := c.getLsbD Config.cfgFlowAt
def cfgCrc (c : Byte) : Bool := c.getLsbD Config.cfgCrcAt
def cfgVersion (c : Byte) : BitVec 2 := c.extractLsb' Config.cfgVersionAt 2

/-- The byte as the block sends it: its seven named bits, and bit 7 as 0 (R140). -/
def cfgSent (c : Byte) : Byte := cfgByte (cfgWindow c) (cfgSwFlow c) (cfgCrc c) (cfgVersion c)

/-! ### The decoders -/

/-- One SLIP symbol (R131, R144). The rows are tried in the order of the table; the catch-all rows come last. -/
def decodeSlip : Bytes → Except DecodeReject Instr
  | [] => .error .noBytes
  | [b] =>
    if b = Config.slipEnd then .ok .slipEnd
    else if b = Config.slipEsc then .ok (.slipBadEsc none)
    else .ok (.slipLit b)
  | [b, x] =>
    if b = Config.slipEsc then
      if x = Config.escEnd then .ok .slipEscEnd
      else if x = Config.escEsc then .ok .slipEscEsc
      else if x = Config.escXon then .ok .slipEscXon
      else if x = Config.escXoff then .ok .slipEscXoff
      else .ok (.slipBadEsc (some x))
    else .error .trailingBytes
  | _ :: _ :: _ :: _ => .error .trailingBytes

/-- The row of a packet type code (R137, R144). -/
def bcspRow (type : BitVec 4) (h : HdrFields) (tail : Bytes) : Instr :=
  if type = Config.typeAck then .bcspAck h tail
  else if type = Config.typeCmd then .bcspCmd h tail
  else if type = Config.typeAcl then .bcspAcl h tail
  else if type = Config.typeEvt then .bcspEvt h tail
  else if type = Config.typeIso then .bcspIso h tail
  else if type = Config.typeVnd then .bcspVnd h tail
  else if type = Config.typeLink then .bcspLink h tail
  else if type = 3 then .bcspRsvd3 h tail
  else if type = 6 then .bcspRsvd6 h tail
  else if type = 7 then .bcspRsvd7 h tail
  else if type = 8 then .bcspRsvd8 h tail
  else if type = 9 then .bcspRsvd9 h tail
  else if type = 10 then .bcspRsvd10 h tail
  else if type = 11 then .bcspRsvd11 h tail
  else if type = 12 then .bcspRsvd12 h tail
  else .bcspRsvd13 h tail

/-- A BCSP frame by its header word; `tail` is every byte after the header (R133, R134). -/
def decodeBcsp : Bytes → Except DecodeReject Instr
  | b0 :: b1 :: b2 :: b3 :: tail => .ok (bcspRow (hdrType b1) (hdrFields b0 b1 b2 b3) tail)
  | [] => .error .noBytes
  | _ => .error .shortHeader

/-- A link-control payload; what `lc_decode` does not know is the row LC.UNKNOWN, of any length (R141, R148). -/
def decodeLc (p : Bytes) : Except DecodeReject Instr :=
  match lcDecode p with
  | .sync => .ok .lcSync
  | .syncResp => .ok .lcSyncResp
  | .conf none => .ok .lcConf
  | .conf (some c) => .ok (.lcConfCfg c)
  | .confResp none => .ok .lcConfResp
  | .confResp (some c) => .ok (.lcConfRespCfg c)
  | .wakeup => .ok .lcWakeup
  | .woken => .ok .lcWoken
  | .sleep => .ok .lcSleep
  | .unknown => .ok (.lcUnknown p)

/-- The configuration byte; bit 7 is ignored (R140, R144). -/
def decodeCfg : Bytes → Except DecodeReject Instr
  | [] => .error .noBytes
  | [c] => .ok (.cfg (cfgWindow c) (cfgSwFlow c) (cfgCrc c) (cfgVersion c))
  | _ :: _ :: _ => .error .trailingBytes

/-- An H4 unit, or the beginning of one, by its type byte (R142). -/
def decodeH4 : Bytes → Except DecodeReject Instr
  | [] => .error .noBytes
  | t :: rest =>
    if t = Config.h4Cmd then .ok (.h4Cmd rest)
    else if t = Config.h4Acl then .ok (.h4Acl rest)
    else if t = Config.h4Evt then .ok (.h4Evt rest)
    else if t = Config.h4Iso then .ok (.h4Iso rest)
    else .ok (.h4Unknown t rest)

/-- The instruction a byte sequence encodes at a layer. -/
def decode : WireFormat → Bytes → Except DecodeReject Instr
  | .slip => decodeSlip
  | .bcsp => decodeBcsp
  | .lc => decodeLc
  | .cfg => decodeCfg
  | .h4t => decodeH4

/-! ### The encoder -/

/-- A BCSP row's frame bytes. -/
def encodeBcsp (type : BitVec 4) (h : HdrFields) (tail : Bytes) : Option (WireFormat × Bytes) :=
  some (.bcsp, hdrWordBytes type h ++ tail)

/-- The wire format and the bytes of an instruction; `none` for the rows of format OP, which have no bit pattern
(R148). -/
def encode : Instr → Option (WireFormat × Bytes)
  | .slipEnd => some (.slip, [Config.slipEnd])
  | .slipEscEnd => some (.slip, [Config.slipEsc, Config.escEnd])
  | .slipEscEsc => some (.slip, [Config.slipEsc, Config.escEsc])
  | .slipEscXon => some (.slip, [Config.slipEsc, Config.escXon])
  | .slipEscXoff => some (.slip, [Config.slipEsc, Config.escXoff])
  | .slipBadEsc x => some (.slip, Config.slipEsc :: x.toList)
  | .slipLit b => some (.slip, [b])
  | .bcspAck h tail => encodeBcsp Config.typeAck h tail
  | .bcspCmd h tail => encodeBcsp Config.typeCmd h tail
  | .bcspAcl h tail => encodeBcsp Config.typeAcl h tail
  | .bcspEvt h tail => encodeBcsp Config.typeEvt h tail
  | .bcspIso h tail => encodeBcsp Config.typeIso h tail
  | .bcspVnd h tail => encodeBcsp Config.typeVnd h tail
  | .bcspLink h tail => encodeBcsp Config.typeLink h tail
  | .bcspRsvd3 h tail => encodeBcsp 3 h tail
  | .bcspRsvd6 h tail => encodeBcsp 6 h tail
  | .bcspRsvd7 h tail => encodeBcsp 7 h tail
  | .bcspRsvd8 h tail => encodeBcsp 8 h tail
  | .bcspRsvd9 h tail => encodeBcsp 9 h tail
  | .bcspRsvd10 h tail => encodeBcsp 10 h tail
  | .bcspRsvd11 h tail => encodeBcsp 11 h tail
  | .bcspRsvd12 h tail => encodeBcsp 12 h tail
  | .bcspRsvd13 h tail => encodeBcsp 13 h tail
  | .lcSync => some (.lc, lcPayload .sync none)
  | .lcSyncResp => some (.lc, lcPayload .syncResp none)
  | .lcConf => some (.lc, lcPayload .conf none)
  | .lcConfResp => some (.lc, lcPayload .confResp none)
  | .lcWakeup => some (.lc, lcPayload .wakeup none)
  | .lcWoken => some (.lc, lcPayload .woken none)
  | .lcSleep => some (.lc, lcPayload .sleep none)
  | .lcConfCfg c => some (.lc, lcPayload .conf (some c))
  | .lcConfRespCfg c => some (.lc, lcPayload .confResp (some c))
  | .lcUnknown p => some (.lc, p)
  | .cfg w f c v => some (.cfg, [cfgByte w f c v])
  | .h4Cmd rest => some (.h4t, Config.h4Cmd :: rest)
  | .h4Acl rest => some (.h4t, Config.h4Acl :: rest)
  | .h4Evt rest => some (.h4t, Config.h4Evt :: rest)
  | .h4Iso rest => some (.h4t, Config.h4Iso :: rest)
  | .h4Unknown t rest => some (.h4t, t :: rest)
  | .slipEncode _ _ | .slipDecode _ | .slipCollect _ _ | .slipResync _ _ | .crcUpdate _ _ | .crc16 _
  | .hdrChecksum _ _ _ | .bcspPack _ _ _ _ _ | .bcspUnpack _ | .arqClassify _ | .upSend _ _ | .txStep | .txFrame _ _
  | .txAckFrame | .rxFrame _ | .arqRxSeq _ | .arqRxAck _ | .arqDeliver _ _ _ | .rtxFire | .rtxWork | .rtxTimeout
  | .arqTimeout | .arqReload | .linkDispatch _ | .linkTimeout | .linkRxSync | .linkRxSyncResp | .linkRxConf _
  | .linkRxConfResp _ | .linkEnterActive | .linkSend _ _ | .negotiate _ | .pwrRxWakeup | .pwrRxWoken | .pwrRxSleep
  | .pwrSleepReq | .wakeFire | .wakeWork | .wakeTimeout | .txWake | .guardElapse | .pwrSendWakeup | .run | .peer _
  | .chainNext _ | .chainPrev _ | .chainSendBytes _ | .chainRecvFrame _ _ | .rxBytes _ | .phyWrite _ | .sizerLen _ _
  | .h4SendFrame _ _ | .h4RecvBytes _ | .sysInit _ | .sysTeardown | .raiseFault _ => none

/-! ### The numbering of spec/opcode_table.json -/

/-- The first `n` bytes of a table word, byte 0 being its least significant byte. -/
def wordBytes : Nat → Nat → Bytes
  | 0, _ => []
  | n + 1, w => BitVec.ofNat 8 w :: wordBytes n (w / 256)

/-- A header word of the table as a frame: the table gives the payload and the CRC no bits, so they are zeros, as many
as the header declares. -/
def frameOfTableHeader : Bytes → Bytes
  | [b0, b1, b2, b3] =>
    [b0, b1, b2, b3] ++ List.replicate ((hdrLength b1 b2).toNat + if hdrCrc b0 then 2 else 0) 0
  | bs => bs

/-- The layer and the bytes a table word stands for. Rows of several formats share a width: 8 bits are SLIP1 when they
are the sentinel, H4T when they are an H4 code, CFG when bit 7 is 0 and SLIP1 otherwise; 16 bits are SLIP2 when the
first byte is the escape and LC2 otherwise (DESIGN CHOICE, notes/assumptions/20.md). -/
def tableWire (nbits w : Nat) : Option (WireFormat × Bytes) :=
  match nbits, wordBytes (nbits / 8) w with
  | 8, [b] =>
    if b = Config.slipEnd then some (.slip, [b])
    else if b = Config.h4Cmd ∨ b = Config.h4Acl ∨ b = Config.h4Evt ∨ b = Config.h4Iso then some (.h4t, [b])
    else if b.getLsbD 7 then some (.slip, [b])
    else some (.cfg, [b])
  | 16, b :: bs => some (if b = Config.slipEsc then .slip else .lc, b :: bs)
  | 24, bs => some (.lc, bs)
  | 32, bs => some (.bcsp, frameOfTableHeader bs)
  | _, _ => none

/-- The instruction the decoder reads from a table word; `none` where the table has no encoding of that width. -/
def decodeTableWord (nbits w : Nat) : Option Instr :=
  match tableWire nbits w with
  | some (f, bs) =>
    match decode f bs with
    | .ok i => some i
    | .error _ => none
  | none => none

end Sys2Proof
end

