-- ==== Sys2Proof/WellFormed.lean ====
section
/-! DEFINITION. Which instructions have operands inside the domain their rule declares. A form the spec itself refuses
or ignores (a private tag in UP.SEND, an over-long payload, a wrong checksum) is well formed: its rule says what
happens. -/

namespace Sys2Proof

/-- A complete SLIP frame: at least two bytes, a sentinel at each end and none between (41_slip.md R201). -/
def slipFrameOk (frame : Bytes) : Bool :=
  decide (2 ≤ frame.length) && decide (frame.head? = some Config.slipEnd)
    && decide (frame.getLast? = some Config.slipEnd) && decide (Config.slipEnd ∉ frame.tail.dropLast)

/-- A collector buffer: `none` or a sequence that begins with the sentinel (R202). -/
def collectorStarts (buf : Option Bytes) : Bool :=
  match buf with
  | none => true
  | some f => decide (f.head? = some Config.slipEnd)

/-- A byte that may follow the escape byte unrecognised (30_encoding.md R131, R144). -/
def badEscSuccessor (x : Byte) : Bool :=
  decide (x ≠ Config.escEnd) && decide (x ≠ Config.escEsc) && decide (x ≠ Config.escXon) && decide (x ≠ Config.escXoff)

/-- A type byte that has no row in R142. -/
def h4CodeUnknown (t : Byte) : Bool :=
  decide (t ≠ Config.h4Cmd) && decide (t ≠ Config.h4Acl) && decide (t ≠ Config.h4Evt) && decide (t ≠ Config.h4Iso)

/-- The operands are in the domain the instruction's rule declares. -/
def Instr.wf : Instr → Bool
  | .slipDecode frame => slipFrameOk frame
  | .slipCollect buf _ => collectorStarts buf
  | .slipResync incoming i => decide (i ≤ incoming.length)
  | .linkSend msg c => c.isNone || decide (msg = .conf) || decide (msg = .confResp)
  | .peer d => decide (d.payload.length ≤ Config.maxPayload)
  | .sysInit p => p.wf
  | .slipBadEsc none => true
  | .slipBadEsc (some x) => badEscSuccessor x
  | .slipLit b => decide (b ≠ Config.slipEnd) && decide (b ≠ Config.slipEsc)
  | .lcUnknown p => decide (lcDecode p = .unknown)
  | .h4Unknown t _ => h4CodeUnknown t
  | .slipEncode _ _ | .crcUpdate _ _ | .crc16 _ | .hdrChecksum _ _ _ | .bcspPack _ _ _ _ _ | .bcspUnpack _
  | .arqClassify _ | .upSend _ _ | .txStep | .txFrame _ _ | .txAckFrame | .rxFrame _ | .arqRxSeq _ | .arqRxAck _
  | .arqDeliver _ _ _ | .rtxFire | .rtxWork | .rtxTimeout | .arqTimeout | .arqReload | .linkDispatch _ | .linkTimeout
  | .linkRxSync | .linkRxSyncResp | .linkRxConf _ | .linkRxConfResp _ | .linkEnterActive | .negotiate _ | .pwrRxWakeup
  | .pwrRxWoken | .pwrRxSleep | .pwrSleepReq | .wakeFire | .wakeWork | .wakeTimeout | .txWake | .guardElapse
  | .pwrSendWakeup | .run | .chainNext _ | .chainPrev _ | .chainSendBytes _ | .chainRecvFrame _ _ | .rxBytes _
  | .phyWrite _ | .sizerLen _ _ | .h4SendFrame _ _ | .h4RecvBytes _ | .sysTeardown | .raiseFault _
  | .slipEnd | .slipEscEnd | .slipEscEsc | .slipEscXon | .slipEscXoff
  | .bcspAck _ _ | .bcspCmd _ _ | .bcspAcl _ _ | .bcspEvt _ _ | .bcspIso _ _ | .bcspVnd _ _ | .bcspLink _ _
  | .bcspRsvd3 _ _ | .bcspRsvd6 _ _ | .bcspRsvd7 _ _ | .bcspRsvd8 _ _ | .bcspRsvd9 _ _ | .bcspRsvd10 _ _
  | .bcspRsvd11 _ _ | .bcspRsvd12 _ _ | .bcspRsvd13 _ _
  | .lcSync | .lcSyncResp | .lcConf | .lcConfResp | .lcWakeup | .lcWoken | .lcSleep | .lcConfCfg _ | .lcConfRespCfg _
  | .cfg _ _ _ _ | .h4Cmd _ | .h4Acl _ | .h4Evt _ | .h4Iso _ => true

end Sys2Proof
end

