-- ==== Sys2Proof/Machine/State.lean ====
section
/-! DEFINITION. The state of the block as plain data: the Link Context (10_state.md), the H4 collector, the output
traces, the instance's parameters, and the model's own fields (coming events, coming draws, the last answer, the counter
of free values); why the machine stops; the reset state (R50). -/

namespace Sys2Proof.Machine

/-- A single-shot timer (10_state.md R46). -/
inductive Timer where
  | idle | armed
  deriving DecidableEq, Repr, Inhabited

/-- The result of BCSP.UNPACK (42_bcsp_crc.md R234). -/
inductive Unpacked where
  | truncated | checksumError | lengthShort | lengthOverrun | crcError
  | ok (h : Header) (payload : Bytes)
  deriving DecidableEq, Repr, Inhabited

/-- The result of SIZER.LEN (47_h4_sizer.md R420). -/
inductive Sized where
  | unknownType | insufficientHeader
  | len (n : Nat)
  deriving DecidableEq, Repr, Inhabited

/-- What an operation returned to its caller. The model's own field (notes/assumptions/11.md). -/
inductive Answer where
  /-- no operation has run yet -/
  | none
  /-- the operation ran and returns nothing -/
  | done
  /-- the operation was not enabled: it took no step (00_scope.md R15, 60_exceptions.md R447) -/
  | notEnabled
  /-- the request was refused by its rule, without a state change (R271, R394, R422) -/
  | refused
  /-- the unit was not sent or not queued because an allocation failed; an ALLOC report was raised (R443) -/
  | allocFailed
  /-- the operation raised a fatal fault and ended there (R446) -/
  | faulted
  | bytes (bs : Bytes)
  | byte (b : Byte)
  | word (w : BitVec 16)
  | count (n : Nat)
  | index (i : Option Nat)
  | config (cfg : Option Byte)
  /-- SLIP.COLLECT: the new buffer, the consumed count, whether a frame is complete (R202) -/
  | collected (buf : Option Bytes) (consumed : Nat) (completed : Bool)
  | unpacked (r : Unpacked)
  | classified (type : BitVec 4) (reliable : Bool)
  /-- ARQ.RX_SEQ: `true` is ok, `false` is mismatch (R278) -/
  | sequence (ok : Bool)
  | sized (r : Sized)
  /-- the data bytes a received SLIP symbol stands for (R131, R201) -/
  | symbol (data : Bytes)
  deriving DecidableEq, Repr, Inhabited

/-- One answer of the byte sink to PHY.WRITE (46_chain.md R397). -/
inductive SinkAnswer where
  /-- the sink took this many of the bytes offered (all of them, if it says more than were offered) -/
  | accepted (k : Nat)
  | hardError
  /-- the sink takes nothing for ever: the write never ends (R397, 93_implementation_defined.md U13) -/
  | stalled
  deriving DecidableEq, Repr, Inhabited

/-- One coming event: what the environment or an agent does next (60_exceptions.md R448; notes/assumptions/1.md). -/
inductive Event where
  /-- an operation, helper or pseudo-operation asked for by its agent -/
  | op (i : Instr)
  /-- a packet on port `up_tx`, routed by the chain (R392, R394) -/
  | upTx (tag : Tag) (payload : Bytes)
  /-- a run of bytes on port `phy_rx`, routed by the chain (R393, R394) -/
  | phyRx (bs : Bytes)
  /-- the bytes of one encoding at the layer that decodes it (R148) -/
  | wire (f : WireFormat) (bs : Bytes)
  deriving DecidableEq, Repr

/-- The state of one instance. -/
structure State where
  /-- the parameters of the instance (R8), set by SYS.INIT only -/
  params : Params
  seq : Count3
  ack : Count3
  rack : Count3
  credit : Nat
  retryCount : Nat
  window : Nat
  useCrc : Bool
  swFlow : Bool
  cfgPeer : Option Byte
  localState : LinkState
  peerState : LinkState
  ackRequired : Bool
  wakeupPending : Bool
  guardWait : Bool
  workerScheduled : Bool
  alive : Bool
  halted : Bool
  rtxWork : Bool
  wakeWork : Bool
  rtxTimer : Timer
  wakeTimer : Timer
  unrelQ : List QUnit
  relQ : List QUnit
  sentQ : List QUnit
  collector : Option Bytes
  h4Collector : Bytes
  /-- trace of `phy_tx` (R49) -/
  phyTx : Bytes
  /-- trace of `up_rx` (R49) -/
  upRx : List QUnit
  /-- trace of `fault` (R440) -/
  faults : List Report
  /-- the model's own: the coming events, next first -/
  events : List Event
  /-- the model's own: the coming answers to `draw(alloc_ok)`; when none is left, allocations succeed -/
  allocDraws : List Bool
  /-- the model's own: the coming answers of the byte sink; when none is left, it takes the rest whole -/
  sinkDraws : List SinkAnswer
  /-- the model's own: what the last operation returned -/
  answer : Answer
  /-- the model's own: how many teardowns have drawn free values -/
  freeCount : Nat
  deriving DecidableEq, Repr

/-- Why the machine stops with a fault. The block's own faults are not among them: they are reports on the fault signal
and next states (R446). -/
inductive Fault where
  /-- Raised by an operation that writes to the byte sink, when the sink takes nothing for ever: R397 and U13 say the
  operation does not end. Safe: the model makes no step where the block makes none. -/
  | sinkStalled
  deriving DecidableEq, Repr

/-- Why the machine refuses to take a step. -/
inductive Refusal where
  /-- Raised by an arm of `exec` that has no meaning yet. Safe. -/
  | notModelled (mnemonic : String)
  /-- Raised by `step` when an operand lies outside the domain its rule declares (`Instr.wf`). Safe: the spec gives
  no effect there. -/
  | illFormed
  deriving DecidableEq, Repr

/-- The state after the first SYS.INIT of a run with the parameters `p`: R50, empty traces, nothing offered yet. -/
def State.resetWith (p : Params) : State where
  params := p
  seq := 0
  ack := 0
  rack := 0
  credit := p.w0
  retryCount := 0
  window := p.w0
  useCrc := p.c0
  swFlow := p.f0
  cfgPeer := none
  localState := .uninitialized
  peerState := .uninitialized
  ackRequired := false
  wakeupPending := false
  guardWait := false
  workerScheduled := false
  alive := true
  halted := false
  rtxWork := false
  wakeWork := false
  rtxTimer := .armed
  wakeTimer := .idle
  unrelQ := []
  relQ := []
  sentQ := []
  collector := none
  h4Collector := []
  phyTx := []
  upRx := []
  faults := []
  events := []
  allocDraws := []
  sinkDraws := []
  answer := .none
  freeCount := 0

/-- The machine right after reset (R490, R491), with the parameters of notes/assumptions/4.md. -/
def State.reset : State := State.resetWith Config.params

end Sys2Proof.Machine
end

