-- ==== Sys2Proof/Machine/Operands.lean ====
section
/-! DEFINITION. The operand forms and tables the operations read: packet classification, the configuration bytes, the
chain, the H4 codes and the sizer's table. Pure functions. -/

namespace Sys2Proof.Machine

/-! ### Classification (43_arq.md R270, 30_encoding.md R137) -/

/-- ARQ.CLASSIFY: the type code of a tag and whether the block sends it reliably (R270). -/
def classify (vendorReliable : Bool) : Tag → BitVec 4 × Bool
  | .cmd => (Config.typeCmd, true)
  | .acl => (Config.typeAcl, true)
  | .evt => (Config.typeEvt, false)
  | .iso => (Config.typeIso, true)
  | .vnd => (Config.typeVnd, vendorReliable)
  | .ack => (Config.typeAck, false)
  | .link => (Config.typeLink, false)

/-- `tag_of`, the inverse of the type column for the types that are delivered to the upper layer (R280). -/
def tagOf (type : BitVec 4) : Option Tag :=
  if type = Config.typeCmd then some .cmd
  else if type = Config.typeAcl then some .acl
  else if type = Config.typeEvt then some .evt
  else if type = Config.typeIso then some .iso
  else if type = Config.typeVnd then some .vnd
  else none

/-- The tags of ports `up_tx` and `up_rx`; the two private tags are not among them (R7, R137, R271). -/
def upperTag : Tag → Bool
  | .cmd | .acl | .evt | .iso | .vnd => true
  | .ack | .link => false

/-- The types whose frames carry a CRC when the session has one (42_bcsp_crc.md R235). -/
def crcType (type : BitVec 4) : Bool :=
  !(decide (type = Config.typeAck) || decide (type = Config.typeLink))

/-! ### Configuration (10_state.md R39, 44_link_fsm.md R326, R330) -/

/-- `cfg_local`, the byte form of the proposal (R39). -/
def cfgLocal (p : Params) : Byte := cfgByte (BitVec.ofNat 3 p.w0) p.f0 p.c0 p.v0

/-- NEGOTIATE (R330): the parameter's answer for this received field and this proposal, and the echo where the parameter
names none (notes/assumptions/31.md). The reserved bit of the answer is cleared where it is sent (`linkSend`). -/
def negotiate (p : Params) (cfg : Option Byte) (proposal : Byte) : Option Byte :=
  match p.negotiation.find? (fun e => decide (e.1 = cfg ∧ e.2.1 = proposal)) with
  | some e => e.2.2
  | none => cfg

/-- The window a configuration byte commits; the reserved field value 0 commits `W0` (R140, R144, R326). -/
def committedWindow (p : Params) (c : Byte) : Nat :=
  if cfgWindow c = 0 then p.w0 else (cfgWindow c).toNat

/-! ### The chain (46_chain.md R390 to R394) -/

/-- CHAIN.NEXT on a chain of `n` nodes (R391). -/
def chainNext (n i : Nat) : Option Nat := if i + 1 < n then some (i + 1) else none

/-- CHAIN.PREV (R391). -/
def chainPrev (i : Nat) : Option Nat := if 0 < i then some (i - 1) else none

/-- The place of the first node of kind `k`: the one a send walk from the consumer end comes to (R392). -/
def firstOf (chain : List NodeKind) (k : NodeKind) : Option Nat := chain.findIdx? (· == k)

/-- The place of the last node of kind `k`: the one a receive walk from the byte-stream end comes to (R393). -/
def lastOf (chain : List NodeKind) (k : NodeKind) : Option Nat :=
  (chain.reverse.findIdx? (· == k)).map (chain.length - 1 - ·)

/-- The kind of the node after the node of kind `k`, where there is one (R392). Of several nodes of one kind the first is
meant, the one `send_frame` comes to (notes/assumptions/40.md). -/
def kindAfter (chain : List NodeKind) (k : NodeKind) : Option NodeKind :=
  (firstOf chain k).bind fun i => (chainNext chain.length i).bind fun j => chain[j]?

/-- The kind of the node before the node of kind `k`, where there is one (R393). Of several nodes of one kind the last is
meant, the one `receive_bytes` comes to (notes/assumptions/40.md). -/
def kindBefore (chain : List NodeKind) (k : NodeKind) : Option NodeKind :=
  (lastOf chain k).bind fun i => (chainPrev i).bind fun j => chain[j]?

/-- `send_bytes` called on the node after `k` reaches the byte sink: only the PhysicalSink has that call (R392, R394). -/
def sendsToSink (chain : List NodeKind) (k : NodeKind) : Bool :=
  decide (kindAfter chain k = some .physicalSink)

/-- `receive_frame` called on the node before `k` reaches the consumer: only the Consumer has that call (R393, R394). -/
def deliversToConsumer (chain : List NodeKind) (k : NodeKind) : Bool :=
  decide (kindBefore chain k = some .consumer)

/-! ### H4 (30_encoding.md R142, R143, 47_h4_sizer.md R420) -/

/-- The H4 type byte of a tag; the vendor tag's is a parameter and the private tags have none (R142). -/
def h4Code (p : Params) : Tag → Option Byte
  | .cmd => some Config.h4Cmd
  | .acl => some Config.h4Acl
  | .evt => some Config.h4Evt
  | .iso => some Config.h4Iso
  | .vnd => p.h4VendorCode
  | .ack | .link => none

/-- The tag whose H4 code is `t`, the rows of R142 first (R420; notes/assumptions/32.md). -/
def h4Tag (p : Params) (t : Byte) : Option Tag :=
  if t = Config.h4Cmd then some .cmd
  else if t = Config.h4Acl then some .acl
  else if t = Config.h4Evt then some .evt
  else if t = Config.h4Iso then some .iso
  else if p.h4VendorCode = some t then some .vnd
  else none

/-- The HCI header table (R143). There is no row for VND and none for the private tags. -/
def sizerRow : Tag → Option SizerRow
  | .cmd => some Config.sizerCmd
  | .acl => some Config.sizerAcl
  | .evt => some Config.sizerEvt
  | .iso => some Config.sizerIso
  | .vnd | .ack | .link => none

/-- The length field of a header, little-endian where it has two bytes (R93, R420). -/
def sizerField (row : SizerRow) (h : Bytes) : BitVec 16 :=
  if row.wide then
    (h.getD row.lenOff 0).setWidth 16 ||| ((h.getD (row.lenOff + 1) 0).setWidth 16 <<< 8)
  else (h.getD row.lenOff 0).setWidth 16

/-- SIZER.LEN (R420). -/
def sizerLen (p : Params) (t : Byte) (h : Bytes) : Sized :=
  match h4Tag p t with
  | none => .unknownType
  | some tag =>
    match sizerRow tag with
    | none => .unknownType
    | some row =>
      if h.length < row.hdrSize then .insufficientHeader
      else .len (row.hdrSize + (sizerField row h &&& row.lenMask).toNat)

end Sys2Proof.Machine
end

