-- ==== Sys2Proof/Machine/Codec.lean ====
section
/-! DEFINITION. The codecs: SLIP (41_slip.md), the CRC-16 generator and the BCSP frame (42_bcsp_crc.md). Pure
functions; the collector takes the allocation draws as an argument and returns those it has not used. -/

namespace Sys2Proof.Machine

/-! ### SLIP (41_slip.md R200 to R204) -/

/-- The bytes the encoder puts out for one data byte (R131, R200). -/
def slipEscape (escapeXonXoff : Bool) (b : Byte) : Bytes :=
  if b = Config.slipEnd then [Config.slipEsc, Config.escEnd]
  else if b = Config.slipEsc then [Config.slipEsc, Config.escEsc]
  else if b = Config.xon ∧ escapeXonXoff = true then [Config.slipEsc, Config.escXon]
  else if b = Config.xoff ∧ escapeXonXoff = true then [Config.slipEsc, Config.escXoff]
  else [b]

/-- SLIP.ENCODE (R200). -/
def slipEncode (payload : Bytes) (escapeXonXoff : Bool) : Bytes :=
  Config.slipEnd :: (payload.flatMap (slipEscape escapeXonXoff) ++ [Config.slipEnd])

/-- The data byte an escape successor stands for, where it is one of the four (R131). -/
def escData (x : Byte) : Option Byte :=
  if x = Config.escEnd then some Config.slipEnd
  else if x = Config.escEsc then some Config.slipEsc
  else if x = Config.escXon then some Config.xon
  else if x = Config.escXoff then some Config.xoff
  else none

/-- The decoder's loop over the bytes between the sentinels (R201). An escape byte whose successor is not one of the
four, or that nothing follows, is an ordinary byte. -/
def slipDecodeBody : Bytes → Bytes
  | [] => []
  | [b] => [b]
  | b :: x :: rest =>
    if b = Config.slipEsc then
      match escData x with
      | some d => d :: slipDecodeBody rest
      | none => b :: slipDecodeBody (x :: rest)
    else b :: slipDecodeBody (x :: rest)

/-- SLIP.DECODE (R201). -/
def slipDecode (frame : Bytes) : Bytes := slipDecodeBody frame.tail.dropLast

/-- What SLIP.COLLECT returns (R202), with the bytes it left for the next call, the allocation draws it did not use and
how many draws failed (each is one ALLOC report, R204). -/
structure Collected where
  buf : Option Bytes
  rest : Bytes
  consumed : Nat
  completed : Bool
  draws : List Bool
  fails : Nat
  deriving DecidableEq, Repr

/-- One more byte consumed. -/
def Collected.eat (c : Collected) : Collected := { c with consumed := c.consumed + 1 }

/-- One more byte consumed, with a failed allocation. -/
def Collected.eatFail (c : Collected) : Collected := { c with consumed := c.consumed + 1, fails := c.fails + 1 }

/-- SLIP.COLLECT (R202) with SLIP.RESYNC at a failed draw (R204): the buffer is dropped and the scan goes on with no
frame open. An exhausted list of draws stands for success (notes/assumptions/6.md). -/
def slipCollect (draws : List Bool) (buf : Option Bytes) : Bytes → Collected
  | [] => ⟨buf, [], 0, false, draws, 0⟩
  | b :: bs =>
    match buf with
    | none =>
      if b = Config.slipEnd then (slipCollect draws (some [Config.slipEnd]) bs).eat
      else (slipCollect draws none bs).eat
    | some f =>
      if b = Config.slipEnd then
        if f.length = 1 then (slipCollect draws (some f) bs).eat
        else ⟨some (f ++ [Config.slipEnd]), bs, 1, true, draws, 0⟩
      else
        match draws with
        | [] => (slipCollect [] (some (f ++ [b])) bs).eat
        | true :: ds => (slipCollect ds (some (f ++ [b])) bs).eat
        | false :: ds => (slipCollect ds none bs).eatFail

/-! ### CRC-16 (42_bcsp_crc.md R230, R231) -/

/-- One bit of CRC.UPDATE: the feedback bit is the register's bit 0 against the data bit (R230). -/
def crcBit (reg : BitVec 16) (d : Bool) : BitVec 16 :=
  if reg.getLsbD 0 ^^ d then (reg >>> 1) ^^^ Config.crcPolyReflected else reg >>> 1

/-- CRC.UPDATE: the eight bits of `d`, bit 0 first (R230). -/
def crcUpdate (reg : BitVec 16) (d : Byte) : BitVec 16 :=
  [0, 1, 2, 3, 4, 5, 6, 7].foldl (fun r i => crcBit r (d.getLsbD i)) reg

/-- The register after a byte sequence, from the initial value (R231). -/
def crcRegister (bs : Bytes) : BitVec 16 := bs.foldl crcUpdate Config.crcInit

/-- `bitrev16`: bit `i` moves to bit `15 - i` (R12). -/
def bitrev16 (v : BitVec 16) : BitVec 16 := v.reverse

/-- CRC16 (R231). -/
def crc16 (bs : Bytes) : BitVec 16 := bitrev16 (crcRegister bs)

/-- The CRC as it is appended, most significant byte first (R138). -/
def crcBytes (c : BitVec 16) : Bytes := [c.extractLsb' Config.crcFirstAt 8, c.extractLsb' Config.crcSecondAt 8]

/-! ### BCSP frames (42_bcsp_crc.md R233, R234) -/

/-- The four header bytes BCSP.PACK makes, with their checksum (R233). -/
def packHeader (seq ack : Count3) (crc reliable : Bool) (type : BitVec 4) (length : BitVec 12) : Bytes :=
  let b0 := hdrByte0 seq ack crc reliable
  let b1 := hdrByte1 type length
  let b2 := hdrByte2 length
  [b0, b1, b2, hdrChecksum b0 b1 b2]

/-- The frame BCSP.PACK makes once its sequence number is chosen (R233). The length field holds the payload's length
modulo 4096; longer payloads never get here (R233 *Enabled when*, R271). -/
def bcspFrame (seq ack : Count3) (crc reliable : Bool) (type : BitVec 4) (payload : Bytes) : Bytes :=
  let f := packHeader seq ack crc reliable type (BitVec.ofNat 12 payload.length) ++ payload
  if crc then f ++ crcBytes (crc16 f) else f

/-- BCSP.UNPACK: checksum, then length, then the CRC if present (R234). -/
def bcspUnpack : Bytes → Unpacked
  | b0 :: b1 :: b2 :: b3 :: body =>
    if b3 ≠ hdrChecksum b0 b1 b2 then .checksumError
    else
      let length := hdrLength b1 b2
      let expect := length.toNat + if hdrCrc b0 then 2 else 0
      if body.length < expect then .lengthShort
      else if expect < body.length then .lengthOverrun
      else if hdrCrc b0 ∧
          body.drop length.toNat ≠ crcBytes (crc16 ([b0, b1, b2, b3] ++ body.take length.toNat)) then .crcError
      else .ok ⟨hdrSeq b0, hdrAck b0, hdrCrc b0, hdrReliable b0, hdrType b1, length⟩ (body.take length.toNat)
  | _ => .truncated

/-- The bytes a peer sends for a described frame (30_encoding.md R147 PEER). -/
def peerBytes (d : PeerFrame) : Bytes :=
  slipEncode (bcspFrame d.seq d.ack d.crc d.reliable d.type d.payload) d.escapeXonXoff

/-! ### The physical sink (46_chain.md R397) -/

/-- How a write to the sink ended. -/
inductive Written where
  /-- every byte is written; `draws` is what is left of the sink's answers -/
  | complete (out : Bytes) (draws : List SinkAnswer)
  /-- one hard error more than the limit; `out` is what had been written -/
  | failed (out : Bytes) (draws : List SinkAnswer)
  /-- the sink takes nothing for ever -/
  | stalled
  deriving DecidableEq, Repr

/-- The loop of PHY.WRITE over the sink's answers (R397): `rest` is still to be written, `out` is written, `errors`
hard errors have been met. When no answer is left the sink takes the rest whole (notes/assumptions/6.md). -/
def sinkLoop (limit : Nat) : List SinkAnswer → (rest out : Bytes) → (errors : Nat) → Written
  | ds, [], out, _ => .complete out ds
  | [], rest, out, _ => .complete (out ++ rest) []
  | .accepted k :: ds, rest, out, errors => sinkLoop limit ds (rest.drop k) (out ++ rest.take k) errors
  | .hardError :: ds, rest, out, errors =>
    if limit < errors + 1 then .failed out ds else sinkLoop limit ds rest out (errors + 1)
  | .stalled :: _, _, _, _ => .stalled

end Sys2Proof.Machine
end

