-- ==== Sys2Proof/Machine/Flags.lean ====
section
/-! DEFINITION. The conditions the operations test: which units of the block are running, the transmit gate and the
worker's conditions (43_arq.md R272, 45_power_fsm.md R367, R368), and the enabling condition of each operation. -/

namespace Sys2Proof.Machine

/-- The Link Context exists and no fatal fault has been reported (10_state.md R44, 60_exceptions.md R447). -/
def State.live (s : State) : Bool := s.alive && !s.halted

/-- The chain has a node of this kind. -/
def State.hasNode (s : State) (k : NodeKind) : Bool := s.params.chain.contains k

/-- The operations of the Bcsp node may run: `alive`, not `halted`, and there is such a node (R395; notes/assumptions/14.md). -/
def State.bcspLive (s : State) : Bool := s.live && s.hasNode .bcsp

/-- The operations of the H4 adapter node may run (R395, R447; notes/assumptions/14.md). -/
def State.h4Live (s : State) : Bool := s.live && s.hasNode .h4Adapter

/-- The link is Active or LowPower. -/
def State.linkActive (s : State) : Bool :=
  decide (s.localState = .active) || decide (s.localState = .lowPower)

/-- Desync: a reliable frame is unacknowledged (R360). -/
def State.desync (s : State) : Bool := decide (s.seq ≠ s.rack)

/-- `gate_open` (R367). -/
def State.gateOpen (s : State) : Bool :=
  decide (s.peerState ≠ .lowPower) || (s.wakeupPending && !s.guardWait)

/-- `is_power(u)`: a WAKEUP, WOKEN or SLEEP message (R272). -/
def isPower (u : QUnit) : Bool :=
  decide (u.tag = .link) &&
    (decide (lcDecode u.payload = .wakeup) || decide (lcDecode u.payload = .woken)
      || decide (lcDecode u.payload = .sleep))

/-- `rel_ready` (R272). -/
def State.relReady (s : State) : Bool :=
  s.linkActive && !s.relQ.isEmpty && decide (0 < s.credit)

/-- `work` (R272). -/
def State.work (s : State) : Bool := !s.unrelQ.isEmpty || s.relReady || s.ackRequired

/-- The head of the unreliable queue may go out: a power message always, any other unit through an open gate (R272). -/
def State.unrelSendable (s : State) : Bool :=
  match s.unrelQ with
  | [] => false
  | u :: _ => isPower u || s.gateOpen

/-- `sendable` (R272). -/
def State.sendable (s : State) : Bool :=
  s.unrelSendable || (s.gateOpen && (s.relReady || s.ackRequired))

/-- `blocked` (R368). -/
def State.blocked (s : State) : Bool :=
  (match s.unrelQ with
    | [] => false
    | u :: _ => !isPower u)
    || s.relReady || s.ackRequired

/-! ### Enabling conditions -/

/-- TX.STEP (R272). -/
def State.txStepEnabled (s : State) : Bool :=
  s.bcspLive && s.workerScheduled && (!s.work || s.sendable)

/-- TX.WAKE (R368). -/
def State.txWakeEnabled (s : State) : Bool :=
  s.bcspLive && s.workerScheduled && decide (s.peerState = .lowPower) && !s.wakeupPending && s.blocked

/-- GUARD.ELAPSE (R369), also in a state that R508 calls quiescent (DESIGN CHOICE, notes/assumptions/42.md). -/
def State.guardElapseEnabled (s : State) : Bool := s.bcspLive && s.guardWait

/-- RTX.FIRE (R281). -/
def State.rtxFireEnabled (s : State) : Bool := s.bcspLive && decide (s.rtxTimer = .armed)

/-- RTX.WORK (R282). -/
def State.rtxWorkEnabled (s : State) : Bool := s.bcspLive && s.rtxWork

/-- WAKE.FIRE (R365). -/
def State.wakeFireEnabled (s : State) : Bool := s.bcspLive && decide (s.wakeTimer = .armed)

/-- WAKE.WORK (R366). -/
def State.wakeWorkEnabled (s : State) : Bool := s.bcspLive && s.wakeWork

/-- PWR.SLEEP_REQ (R364). -/
def State.sleepReqEnabled (s : State) : Bool :=
  s.bcspLive && decide (s.localState = .active) && s.sentQ.isEmpty && s.relQ.isEmpty

/-- SYS.INIT (R490). -/
def State.initEnabled (s : State) : Bool := !s.alive || s.halted

end Sys2Proof.Machine
end

