-- ==== Sys2Proof/Machine/Ops.lean ====
section
/-! DEFINITION. The shared operations over the state: answers, timers and the worker flag, the fault signal (taking a
fault and returning from one), the environment's draws, the byte sink and the chain, sending a frame, the reload, and
the commit. -/

namespace Sys2Proof.Machine

/-! ### Single-register updates (00_scope.md R13) -/

/-- What the operation returns to its caller (notes/assumptions/11.md). -/
def State.answering (s : State) (a : Answer) : State := { s with answer := a }

/-- `schedule_worker()` (R13, R275). -/
def State.scheduleWorker (s : State) : State := { s with workerScheduled := true }

/-- `arm(rtx_timer)` (R46). -/
def State.armRtx (s : State) : State := { s with rtxTimer := .armed }

/-- `cancel(rtx_timer)`; a pending `rtx_work` stays (R45, R46). -/
def State.cancelRtx (s : State) : State := { s with rtxTimer := .idle }

/-- `arm(wake_timer)` (R46). -/
def State.armWake (s : State) : State := { s with wakeTimer := .armed }

/-- `cancel(wake_timer)`; a pending `wake_work` stays (R45, R46). -/
def State.cancelWake (s : State) : State := { s with wakeTimer := .idle }

/-- `push_back(unrel_q, u)` (R104). -/
def State.pushUnrel (s : State) (u : QUnit) : State := { s with unrelQ := s.unrelQ ++ [u] }

/-- `push_back(rel_q, u)` (R104). -/
def State.pushRel (s : State) (u : QUnit) : State := { s with relQ := s.relQ ++ [u] }

/-- `emit(up_rx, u)` (R13, R49). -/
def State.emitUp (s : State) (u : QUnit) : State := { s with upRx := s.upRx ++ [u] }

/-! ### The fault signal (60_exceptions.md) -/

/-- The fatal codes (R444). -/
def fatal : Report → Bool
  | .outOfSequence _ _ | .retryLimit _ | .write _ | .protocolSyncWhileActive => true
  | .checksum _ | .crc | .alloc => false

/-- `raise Fault(code, info)`: the report goes out on `fault`, and a fatal one halts the block. Nothing else is written
(R446). -/
def raiseFault (r : Report) (s : State) : State :=
  { s with faults := s.faults ++ [r], halted := s.halted || fatal r }

/-- `n` ALLOC reports (R204). -/
def raiseAllocs (n : Nat) (s : State) : State := { s with faults := s.faults ++ List.replicate n .alloc }

/-- SYS.INIT: every register at its value in the table of R50, with the parameters `p`, `rtx_timer` armed (R490). It is
also the return from a fatal fault (R452). The output traces and the model's own fields are kept. -/
def State.initWith (p : Params) (s : State) : State :=
  { State.resetWith p with
    phyTx := s.phyTx
    upRx := s.upRx
    faults := s.faults
    events := s.events
    allocDraws := s.allocDraws
    sinkDraws := s.sinkDraws
    answer := s.answer
    freeCount := s.freeCount }

/-- SYS.TEARDOWN in the order of R492: timers, deferred work, worker, queues, collectors, `alive`. Every register it
does not set is unspecified afterwards: a free value (R492, U19; notes/assumptions/12.md). -/
def State.teardown (s : State) : State :=
  let v := Config.unspecified s.freeCount
  { s with
    rtxTimer := .idle
    wakeTimer := .idle
    rtxWork := false
    wakeWork := false
    workerScheduled := false
    unrelQ := []
    relQ := []
    sentQ := []
    collector := none
    h4Collector := []
    alive := false
    seq := v.seq
    ack := v.ack
    rack := v.rack
    credit := v.credit.val
    retryCount := v.retryCount
    window := v.windowPred.val + 1
    useCrc := v.useCrc
    swFlow := v.swFlow
    cfgPeer := v.cfgPeer
    localState := v.localState
    peerState := v.peerState
    ackRequired := v.ackRequired
    wakeupPending := v.wakeupPending
    guardWait := v.guardWait
    halted := v.halted
    freeCount := s.freeCount + 1 }

/-! ### Draws (20_memory.md R105) -/

/-- `draw(alloc_ok)`: the next of the environment's answers, success when none is left (notes/assumptions/6.md). -/
def allocOk (s : State) : Bool := s.allocDraws.headD true

/-- The state after one `draw(alloc_ok)`. -/
def State.dropAllocDraw (s : State) : State := { s with allocDraws := s.allocDraws.tail }

/-! ### Outcomes of an operation that writes to the sink -/

/-- What an operation that may write to the byte sink comes to. -/
inductive Flow where
  /-- it goes on in this state -/
  | go (s : State)
  /-- an allocation failed and its send is abandoned; the report is raised (R443) -/
  | abandoned (s : State)
  /-- it raised a fatal fault and ends in this state (R446) -/
  | stop (s : State)
  /-- the sink takes nothing for ever (R397, U13) -/
  | stall
  deriving DecidableEq, Repr

/-- Go on with the next part of an operation, where there is one to go on to. -/
def Flow.andThen (f : Flow) (g : State → Flow) : Flow :=
  match f with
  | .go s => g s
  | .abandoned s => .abandoned s
  | .stop s => .stop s
  | .stall => .stall

/-- The outcome of an operation, with its answer where it ran to its end. -/
def Flow.outcome (f : Flow) (a : Answer) : Host.Outcome State Fault Refusal :=
  match f with
  | .go s => .next (s.answering a)
  | .abandoned s => .next (s.answering .allocFailed)
  | .stop s => .next (s.answering .faulted)
  | .stall => .fault .sinkStalled

/-- An operation that is not enabled takes no step: nothing changes and its caller is told (R15, R447, U18;
notes/assumptions/9.md). -/
def turnedAway (s : State) : Host.Outcome State Fault Refusal := .next (s.answering .notEnabled)

/-- A request its rule refuses: nothing changes and its caller is told (R271, R394, R422; notes/assumptions/10.md). -/
def refusedCall (s : State) : Host.Outcome State Fault Refusal := .next (s.answering .refused)

/-- An operation of no particular node that runs to its end: its next state and its answer, or turned away while the
block is halted or does not exist (R447, U18; notes/assumptions/13.md). -/
def onLive (t : State) (a : Answer) (s : State) : Host.Outcome State Fault Refusal :=
  if s.live then .next (t.answering a) else turnedAway s

/-- An operation of the Bcsp node that runs to its end: its next state and its answer, or turned away while the node is
not live (R395, R447). -/
def onBcsp (t : State) (a : Answer) (s : State) : Host.Outcome State Fault Refusal :=
  if s.bcspLive then .next (t.answering a) else turnedAway s

/-! ### The byte sink and the chain (46_chain.md R392, R393, R397) -/

/-- PHY.WRITE (R397): what the sink took goes to `phy_tx`; one hard error more than WRITE_RETRY_LIMIT is the fatal
fault WRITE, whose info is the count of bytes written. -/
def writeSink (bs : Bytes) (s : State) : Flow :=
  match sinkLoop s.params.writeRetryLimit s.sinkDraws bs [] 0 with
  | .complete out ds => .go { s with phyTx := s.phyTx ++ out, sinkDraws := ds }
  | .failed out ds => .stop (raiseFault (.write out.length) { s with phyTx := s.phyTx ++ out, sinkDraws := ds })
  | .stalled => .stall

/-- `send_bytes` called on the node after `k`: the sink's PHY.WRITE, or a call that no such node has, which is refused
without effect (R392, R394; notes/assumptions/24.md). -/
def sendBytesFrom (k : NodeKind) (bs : Bytes) (s : State) : Flow :=
  if sendsToSink s.params.chain k then writeSink bs s else .go s

/-- `receive_frame` called on the node before `k`: the consumer's emission on `up_rx`, or a refused call without effect
(R393, R394; notes/assumptions/24.md). -/
def recvFrameFrom (k : NodeKind) (u : QUnit) (s : State) : State :=
  if deliversToConsumer s.params.chain k then s.emitUp u else s

/-! ### Sending a frame (43_arq.md R273, 42_bcsp_crc.md R233) -/

/-- The sequence number BCSP.PACK assigns: `x[seq]` for a reliable frame, else 0 (R233). -/
def State.packSeq (s : State) (reliable : Bool) : Count3 := if reliable then s.seq else 0

/-- BCSP.PACK's write to `x[seq]`: one more modulo 8 for a reliable frame (R233). -/
def State.bumpSeq (s : State) (reliable : Bool) : State :=
  { s with seq := if reliable then s.seq + 1 else s.seq }

/-- The `use_crc` argument for a frame of this type (R235, R273). -/
def State.frameCrc (s : State) (type : BitVec 4) : Bool := s.useCrc && crcType type

/-- The bytes TX.FRAME puts on the wire for a unit: packed now, with the current `seq`, `ack`, `use_crc` and `sw_flow`
(R103, R273). -/
def State.wireBytes (s : State) (u : QUnit) (reliable : Bool) : Bytes :=
  let type := (classify s.params.vendorReliable u.tag).1
  slipEncode (bcspFrame (s.packSeq reliable) s.ack (s.frameCrc type) reliable type u.payload) s.swFlow

/-- TX.FRAME (R273). Building the frame is an allocation: when it fails the send is abandoned before anything but the
ALLOC report has happened (R443). Every frame acknowledges, so `ack_required` is cleared. -/
def txFrame (u : QUnit) (reliable : Bool) (s : State) : Flow :=
  if allocOk s then
    (sendBytesFrom .bcsp (s.wireBytes u reliable) (s.dropAllocDraw.bumpSeq reliable)).andThen
      fun t => .go { t with ackRequired := false }
  else .abandoned (raiseFault .alloc s.dropAllocDraw)

/-- The WAKEUP message as a unit (R139, R370). -/
def wakeupUnit : QUnit := ⟨.link, lcPayload .wakeup none⟩

/-- PWR.SEND_WAKEUP (R370): a WAKEUP sent directly; it does not discharge an owed acknowledgement. An abandoned send
leaves everything else as it was (R443; notes/assumptions/16.md). -/
def sendWakeup (s : State) : Flow :=
  (txFrame wakeupUnit false s).andThen fun t =>
    .go { t with
      ackRequired := s.ackRequired
      wakeupPending := true
      guardWait := true
      wakeTimer := .armed }

/-! ### Queueing a message, the reload, the commit -/

/-- LINK.SEND (44_link_fsm.md R327): the message is queued on the unreliable queue. The reserved bit 7 of its
configuration byte is sent as 0, whatever was proposed, chosen or echoed (30_encoding.md R140). -/
def linkSend (m : LcName) (cfg : Option Byte) (s : State) : State :=
  (s.pushUnrel ⟨.link, lcPayload m (cfg.map cfgSent)⟩).scheduleWorker

/-- ARQ.RELOAD (43_arq.md R284): go-back-N. -/
def arqReload (s : State) : State :=
  { s with
    relQ := s.sentQ ++ s.relQ
    sentQ := []
    seq := s.seq - BitVec.ofNat 3 s.sentQ.length
    credit := s.window
    rtxTimer := .idle
    workerScheduled := true }

/-- The window LINK.ENTER_ACTIVE commits: from the captured byte, else the proposal (R326). -/
def State.windowToCommit (s : State) : Nat :=
  match s.cfgPeer with
  | none => s.params.w0
  | some c => committedWindow s.params c

/-- The software flow control LINK.ENTER_ACTIVE commits (R326). -/
def State.flowToCommit (s : State) : Bool :=
  match s.cfgPeer with
  | none => s.params.f0
  | some c => cfgSwFlow c

/-- The CRC enable LINK.ENTER_ACTIVE commits (R326). -/
def State.crcToCommit (s : State) : Bool :=
  match s.cfgPeer with
  | none => s.params.c0
  | some c => cfgCrc c

/-- LINK.ENTER_ACTIVE (44_link_fsm.md R326): the counters reset, the configuration is committed. -/
def enterActive (s : State) : State :=
  { s with
    localState := .active
    seq := 0
    ack := 0
    rack := 0
    window := s.windowToCommit
    swFlow := s.flowToCommit
    useCrc := s.crcToCommit
    credit := s.windowToCommit
    retryCount := 0
    ackRequired := false
    workerScheduled := true }

end Sys2Proof.Machine
end

