-- ==== Sys2Proof/Machine/Receive.lean ====
section
/-! DEFINITION. What a received frame does: the power messages (45_power_fsm.md), the link messages and the handshake
timeout (44_link_fsm.md), acknowledgement and sequence processing and delivery (43_arq.md), and the receive path over
a run of bytes (46_chain.md R396, 47_h4_sizer.md R423). -/

namespace Sys2Proof.Machine

/-! ### Power messages (45_power_fsm.md R361 to R363) -/

/-- PWR.RX_WOKEN (R362). -/
def rxWoken (s : State) : State :=
  if s.linkActive then
    let t := { s with peerState := .active, wakeTimer := .idle, wakeupPending := false, guardWait := false }
    (if s.desync then arqReload t else t).scheduleWorker
  else s

/-- PWR.RX_WAKEUP (R361). -/
def rxWakeup (s : State) : State :=
  match s.localState with
  | .lowPower => { linkSend .woken none s with localState := .active }
  | .active => rxWoken s
  | .uninitialized | .initialized | .waitPeerActive => s

/-- PWR.RX_SLEEP (R363). -/
def rxSleep (s : State) : State :=
  if s.linkActive then
    let t := { s with peerState := .lowPower }
    if s.desync then t.armWake else t
  else s

/-! ### Link messages (44_link_fsm.md R321 to R325) -/

/-- LINK.TIMEOUT (R321). Asked for alone in Active or LowPower, where R321 has no case and the timeout of R328 is
RTX.WORK's ARQ.TIMEOUT, it changes nothing (DESIGN CHOICE, notes/assumptions/41.md). -/
def linkTimeout (s : State) : State :=
  match s.localState with
  | .uninitialized => (linkSend .sync none s).armRtx
  | .initialized => (linkSend .conf (some (cfgLocal s.params)) s).armRtx
  | .waitPeerActive | .active | .lowPower => s

/-- LINK.RX_SYNC (R322). -/
def rxSync (s : State) : State :=
  match s.localState with
  | .uninitialized | .initialized => linkSend .syncResp none s
  | .waitPeerActive => s
  | .active | .lowPower => raiseFault .protocolSyncWhileActive s

/-- LINK.RX_SYNC_RESP (R323). -/
def rxSyncResp (s : State) : State :=
  match s.localState with
  | .uninitialized =>
    (linkSend .conf (some (cfgLocal s.params)) { s with localState := .initialized }).armRtx
  | .initialized | .waitPeerActive | .active | .lowPower => s

/-- The CONF_RESP that answers a CONF, with the field NEGOTIATE chooses (R324, R330). -/
def sendConfResp (cfg : Option Byte) (s : State) : State :=
  linkSend .confResp (negotiate s.params cfg (cfgLocal s.params)) s

/-- LINK.RX_CONF (R324). -/
def rxConf (cfg : Option Byte) (s : State) : State :=
  match s.localState with
  | .uninitialized => s
  | .initialized => { sendConfResp cfg s with peerState := .active }
  | .waitPeerActive => enterActive { sendConfResp cfg s with peerState := .active }
  | .active | .lowPower => sendConfResp cfg s

/-- LINK.RX_CONF_RESP (R325). -/
def rxConfResp (cfg : Option Byte) (s : State) : State :=
  match s.localState with
  | .initialized =>
    let t := { s with rtxTimer := .idle, cfgPeer := cfg }
    if s.peerState = .active then enterActive t else { t with localState := .waitPeerActive }
  | .uninitialized | .waitPeerActive | .active | .lowPower => s

/-- LINK.DISPATCH (R320). -/
def linkDispatch (m : LcMsg) (s : State) : State :=
  match m with
  | .sync => rxSync s
  | .syncResp => rxSyncResp s
  | .conf cfg => rxConf cfg s
  | .confResp cfg => rxConfResp cfg s
  | .wakeup => rxWakeup s
  | .woken => rxWoken s
  | .sleep => rxSleep s
  | .unknown => s

/-! ### ARQ (43_arq.md R277 to R280, R283) -/

/-- The state after ARQ.RX_SEQ accepted a frame (R278). -/
def acceptSeq (s : State) : State :=
  { s with ack := s.ack + 1, ackRequired := true, workerScheduled := true }

/-- The distance an acknowledgement value names (R279, R286). -/
def State.ackDistance (s : State) (a : Count3) : Nat := (a - s.rack).toNat

/-- Acknowledgement progress: `k` units leave the head of `sent_q` and their credit comes back; the retry count is
cleared and the worker scheduled when there was any (R279). -/
def acknowledge (k : Nat) (a : Count3) (s : State) : State :=
  { s with
    sentQ := s.sentQ.drop k
    rack := a
    credit := s.credit + k
    retryCount := if 0 < k then 0 else s.retryCount
    workerScheduled := s.workerScheduled || decide (0 < k) }

/-- ARQ.RX_ACK (R279). -/
def rxAck (a : Count3) (s : State) : State :=
  if a = s.seq then (acknowledge s.sentQ.length a s).cancelRtx
  else if s.ackDistance a ≤ s.sentQ.length then acknowledge (s.ackDistance a) a s
  else s

/-- ARQ.DELIVER (R280). -/
def deliver (h : Header) (p : Bytes) (arqOn : Bool) (s : State) : State :=
  if h.type = Config.typeLink then linkDispatch (lcDecode p) s
  else
    match tagOf h.type with
    | some tag => if arqOn then recvFrameFrom .bcsp ⟨tag, p⟩ s else s
    | none => s

/-- What RX.FRAME does with a frame that passed the integrity checks: sequence check, acknowledgement, delivery, in that
order (R277, R450). -/
def rxGood (h : Header) (p : Bytes) (s : State) : State :=
  if s.linkActive then
    if h.reliable then
      if h.seq = s.ack then deliver h p true (rxAck h.ack (acceptSeq s))
      else raiseFault (.outOfSequence h.seq s.ack) s
    else deliver h p true (rxAck h.ack s)
  else deliver h p false s

/-- RX.FRAME (R277). -/
def rxFrame (f : Bytes) (s : State) : State :=
  match bcspUnpack f with
  | .truncated => s
  | .checksumError => raiseFault (.checksum .header) s
  | .lengthShort => raiseFault (.checksum .lengthShort) s
  | .lengthOverrun => raiseFault (.checksum .lengthOverrun) s
  | .crcError => raiseFault .crc s
  | .ok h p => rxGood h p s

/-- ARQ.TIMEOUT (R283). -/
def arqTimeout (s : State) : State :=
  if s.sentQ.isEmpty then s
  else if s.params.retryLimit ≤ s.retryCount then raiseFault (.retryLimit s.retryCount) s
  else arqReload { s with retryCount := s.retryCount + 1 }

/-- RTX.FIRE (R281). -/
def rtxFire (s : State) : State := { s with rtxTimer := .idle, rtxWork := true }

/-- RTX.WORK (R282). -/
def rtxWork (s : State) : State :=
  let t := { s with rtxWork := false }
  match s.localState with
  | .uninitialized | .initialized => linkTimeout t
  | .waitPeerActive => t
  | .active | .lowPower => arqTimeout t

/-- WAKE.FIRE (R365). -/
def wakeFire (s : State) : State := { s with wakeTimer := .idle, wakeWork := true }

/-- WAKE.WORK (R366). -/
def wakeWork (s : State) : Flow :=
  let t := { s with wakeWork := false }
  if s.linkActive && decide (s.peerState = .lowPower) then sendWakeup t else .go t

/-! ### A run of bytes (46_chain.md R396, 47_h4_sizer.md R423) -/

/-- The loop of RX.BYTES (R396). Each turn that completes a frame consumes at least one byte, so the count `fuel` of the
bytes left is enough turns. -/
def rxLoop : (fuel : Nat) → Bytes → State → State
  | 0, _, s => s
  | _ + 1, [], s => s
  | fuel + 1, b :: bs, s =>
    if s.halted then s
    else
      let c := slipCollect s.allocDraws s.collector (b :: bs)
      let t := raiseAllocs c.fails { s with allocDraws := c.draws }
      if c.completed then rxLoop fuel c.rest (rxFrame (slipDecode (c.buf.getD [])) { t with collector := none })
      else { t with collector := c.buf }

/-- RX.BYTES (R396). -/
def rxBytes (bs : Bytes) (s : State) : State := rxLoop bs.length bs s

/-- The H4 collector takes this value. -/
def State.withH4 (s : State) (c : Bytes) : State := { s with h4Collector := c }

/-- One byte at the H4 adapter (R423). -/
def h4Byte (s : State) (b : Byte) : State :=
  let c := s.h4Collector ++ [b]
  match c with
  | [] => s.withH4 c
  | type :: rest =>
    match sizerLen s.params type rest with
    | .unknownType => s.withH4 []
    | .insufficientHeader => s.withH4 c
    | .len n =>
      if c.length = 1 + n then
        match h4Tag s.params type with
        | some tag => (recvFrameFrom .h4Adapter ⟨tag, rest⟩ s).withH4 []
        | none => s.withH4 []
      else s.withH4 c

/-- H4.RECV_BYTES (R423). -/
def h4Bytes (bs : Bytes) (s : State) : State := bs.foldl h4Byte s

end Sys2Proof.Machine
end

