-- ==== Sys2Proof/Machine/Transmit.lean ====
section
/-! DEFINITION. The transmit worker (43_arq.md R272, R274) and its pseudo-operation RUN (30_encoding.md R147). -/

namespace Sys2Proof.Machine

/-- How far one iteration of the worker has come. -/
inductive Iteration where
  /-- it goes on; `sent` says whether a frame has gone out in it -/
  | on (s : State) (sent : Bool)
  | stop (s : State)
  | stall
  deriving DecidableEq, Repr

/-- The first part of TX.STEP: the head of `unrel_q`, where it may go out (R272). An abandoned send puts the unit back
at the front (R443; notes/assumptions/15.md). -/
def txUnreliable (s : State) : Iteration :=
  match s.unrelQ with
  | [] => .on s false
  | u :: q =>
    if isPower u || s.gateOpen then
      match txFrame u false { s with unrelQ := q } with
      | .go t => .on t true
      | .abandoned t => .on { t with unrelQ := u :: q } false
      | .stop t => .stop t
      | .stall => .stall
    else .on s false

/-- The second part of TX.STEP: the head of `rel_q`, where there is credit and the gate is open. It moves to `sent_q`
and the retransmission timer is armed (R272). -/
def txReliable (s : State) (sent : Bool) : Iteration :=
  if s.relReady && s.gateOpen then
    match s.relQ with
    | [] => .on s sent
    | u :: q =>
      match txFrame u true { s with relQ := q } with
      | .go t => .on { t with sentQ := t.sentQ ++ [u], credit := t.credit - 1, rtxTimer := .armed } true
      | .abandoned t => .on { t with relQ := u :: q } sent
      | .stop t => .stop t
      | .stall => .stall
  else .on s sent

/-- The acknowledgement-only unit (R274). -/
def ackUnit : QUnit := ⟨.ack, []⟩

/-- The last part of TX.STEP: the acknowledgement-only frame, when one is owed and nothing else went out (R272, R274).
An abandoned one is simply not sent (R443). -/
def txOwedAck (s : State) (sent : Bool) : Flow :=
  if !sent && s.ackRequired && s.gateOpen then
    match txFrame ackUnit false s with
    | .abandoned t => .go t
    | f => f
  else .go s

/-- TX.STEP, one iteration of the worker (R272). -/
def txStep (s : State) : Flow :=
  if s.work then
    match txUnreliable s with
    | .on t sent =>
      match txReliable t sent with
      | .on t' sent' => txOwedAck t' sent'
      | .stop t' => .stop t'
      | .stall => .stall
    | .stop t => .stop t
    | .stall => .stall
  else .go { s with workerScheduled := false }

/-- RUN: TX.STEP again and again while it is enabled, the gate of R367 is open and TX.WAKE is not needed. A closed gate
stops it also before a power message or the iteration that ends the worker (R147; notes/assumptions/17.md). -/
def runLoop : Nat → State → Flow
  | 0, s => .go s
  | n + 1, s =>
    if s.txStepEnabled && s.gateOpen && !s.txWakeEnabled then (txStep s).andThen (runLoop n) else .go s

/-- A number of iterations after which the worker has terminated: each one sends a unit, sends the owed acknowledgement,
uses up a failed allocation, or ends. -/
def State.runBound (s : State) : Nat := s.unrelQ.length + s.relQ.length + s.allocDraws.length + 3

end Sys2Proof.Machine
end

