-- ==== Sys2Proof/Machine/Arq.lean ====
section
/-! DEFINITION. The ARQ sequencer operations (43_arq.md) and the pseudo-operations over them (30_encoding.md R147). All are
enabled only while the Bcsp node is live (head of 43_arq.md). -/

namespace Sys2Proof.Machine

/-- ARQ.CLASSIFY (43_arq.md R270). -/
def execArqClassify (tag : Tag) (s : State) : Host.Outcome State Fault Refusal :=
  onBcsp s (.classified (classify s.params.vendorReliable tag).1 (classify s.params.vendorReliable tag).2) s

/-- The queue a unit enters: `rel_q` when its tag is classified reliable, else `unrel_q` (R271). -/
def State.enqueue (s : State) (u : QUnit) : State :=
  if (classify s.params.vendorReliable u.tag).2 then s.pushRel u else s.pushUnrel u

/-- UP.SEND (43_arq.md R271). -/
def execUpSend (tag : Tag) (payload : Bytes) (s : State) : Host.Outcome State Fault Refusal :=
  if s.bcspLive then
    if upperTag tag && decide (payload.length ≤ Config.maxPayload) then
      if allocOk s then .next ((s.dropAllocDraw.enqueue ⟨tag, payload⟩).scheduleWorker.answering .done)
      else .next ((raiseFault .alloc s.dropAllocDraw).answering .allocFailed)
    else refusedCall s
  else turnedAway s

/-- TX.STEP (43_arq.md R272). -/
def execTxStep (s : State) : Host.Outcome State Fault Refusal :=
  if s.txStepEnabled then (txStep s).outcome .done else turnedAway s

/-- TX.FRAME (43_arq.md R273). Asked for alone it needs none of the conditions of TX.STEP (DESIGN CHOICE,
notes/assumptions/44.md). -/
def execTxFrame (u : QUnit) (reliable : Bool) (s : State) : Host.Outcome State Fault Refusal :=
  if s.bcspLive && decide (u.payload.length ≤ Config.maxPayload) then (txFrame u reliable s).outcome .done
  else turnedAway s

/-- TX.ACKFRAME (43_arq.md R274). Asked for alone it sends the frame whenever the node is live, also while no
acknowledgement is owed or the gate is closed: R274 speaks of the worker's call only (DESIGN CHOICE,
notes/assumptions/44.md). -/
def execTxAckFrame (s : State) : Host.Outcome State Fault Refusal :=
  if s.bcspLive then (txFrame ackUnit false s).outcome .done else turnedAway s

/-- RX.FRAME (43_arq.md R277). -/
def execRxFrame (f : Bytes) (s : State) : Host.Outcome State Fault Refusal := onBcsp (rxFrame f s) .done s

/-- ARQ.RX_SEQ (43_arq.md R278). -/
def execArqRxSeq (n : Count3) (s : State) : Host.Outcome State Fault Refusal :=
  if n = s.ack then onBcsp (acceptSeq s) (.sequence true) s
  else onBcsp (raiseFault (.outOfSequence n s.ack) s) (.sequence false) s

/-- ARQ.RX_ACK (43_arq.md R279). -/
def execArqRxAck (a : Count3) (s : State) : Host.Outcome State Fault Refusal := onBcsp (rxAck a s) .done s

/-- ARQ.DELIVER (43_arq.md R280). -/
def execArqDeliver (h : Header) (p : Bytes) (arqOn : Bool) (s : State) : Host.Outcome State Fault Refusal := onBcsp (deliver h p arqOn s) .done s

/-- RTX.FIRE (43_arq.md R281). -/
def execRtxFire (s : State) : Host.Outcome State Fault Refusal :=
  if s.rtxFireEnabled then .next ((rtxFire s).answering .done) else turnedAway s

/-- RTX.WORK (43_arq.md R282). -/
def execRtxWork (s : State) : Host.Outcome State Fault Refusal :=
  if s.rtxWorkEnabled then .next ((rtxWork s).answering .done) else turnedAway s

/-- RTX.TIMEOUT (30_encoding.md R147, 43_arq.md R282). Where RTX.FIRE is not enabled the whole is turned away, also while
`rtx_work` is 1 (DESIGN CHOICE, notes/assumptions/39.md). -/
def execRtxTimeout (s : State) : Host.Outcome State Fault Refusal :=
  if s.rtxFireEnabled then .next ((rtxWork (rtxFire s)).answering .done) else turnedAway s

/-- ARQ.TIMEOUT (43_arq.md R283). -/
def execArqTimeout (s : State) : Host.Outcome State Fault Refusal := onBcsp (arqTimeout s) .done s

/-- ARQ.RELOAD (43_arq.md R284). -/
def execArqReload (s : State) : Host.Outcome State Fault Refusal := onBcsp (arqReload s) .done s

/-- RUN (30_encoding.md R147, 43_arq.md R272). -/
def execRun (s : State) : Host.Outcome State Fault Refusal :=
  if s.bcspLive then (runLoop s.runBound s).outcome .done else turnedAway s

/-- PEER (30_encoding.md R147, 46_chain.md R396). -/
def execPeer (d : PeerFrame) (s : State) : Host.Outcome State Fault Refusal :=
  onBcsp (rxBytes (peerBytes d) s) (.count (peerBytes d).length) s

end Sys2Proof.Machine
end

