-- ==== Sys2Proof/Machine/Bcsp.lean ====
section
/-! DEFINITION. The CRC generator, the header checksum, packing and unpacking (42_bcsp_crc.md), and the receipt of a BCSP
frame by its header word (30_encoding.md R134, R137, R144). The pure functions have no condition of their own, but a halted
or absent block runs no operation at all (60_exceptions.md R447; notes/assumptions/13.md). -/

namespace Sys2Proof.Machine

/-- CRC.UPDATE (42_bcsp_crc.md R230). -/
def execCrcUpdate (reg : BitVec 16) (d : Byte) (s : State) : Host.Outcome State Fault Refusal :=
  onLive s (.word (crcUpdate reg d)) s

/-- CRC16 (42_bcsp_crc.md R231). -/
def execCrc16 (bs : Bytes) (s : State) : Host.Outcome State Fault Refusal := onLive s (.word (crc16 bs)) s

/-- HDR.CHECKSUM (42_bcsp_crc.md R232). -/
def execHdrChecksum (b0 b1 b2 : Byte) (s : State) : Host.Outcome State Fault Refusal :=
  onLive s (.byte (hdrChecksum b0 b1 b2)) s

/-- BCSP.PACK (42_bcsp_crc.md R233). Asked for alone it draws no allocation and does not fail: R105 counts the building
of a frame among the allocations, but R443 gives a failure its consequence in TX.FRAME only (DESIGN CHOICE,
notes/assumptions/43.md). -/
def execBcspPack (payload : Bytes) (type : BitVec 4) (reliable : Bool) (ack : Count3) (useCrc : Bool) (s : State) : Host.Outcome State Fault Refusal :=
  if s.bcspLive && decide (payload.length ≤ Config.maxPayload) then
    .next ((s.bumpSeq reliable).answering (.bytes (bcspFrame (s.packSeq reliable) ack useCrc reliable type payload)))
  else turnedAway s

/-- BCSP.UNPACK (42_bcsp_crc.md R234). -/
def execBcspUnpack (f : Bytes) (s : State) : Host.Outcome State Fault Refusal := onLive s (.unpacked (bcspUnpack f)) s

/-- The receipt of a BCSP frame with this header word and these bytes after it: RX.FRAME checks the stored checksum, the
length and the CRC and then delivers by type (R277, R280). -/
def rxHeaderWord (type : BitVec 4) (h : HdrFields) (tail : Bytes) (s : State) : Host.Outcome State Fault Refusal :=
  if s.bcspLive then .next ((rxFrame (hdrWordBytes type h ++ tail) s).answering .done) else turnedAway s

/-- BCSP.ACK (30_encoding.md R134, R137, on receipt 43_arq.md R277, R280). -/
def execBcspAck (h : HdrFields) (tail : Bytes) (s : State) : Host.Outcome State Fault Refusal := rxHeaderWord Config.typeAck h tail s

/-- BCSP.CMD (30_encoding.md R134, R137, on receipt 43_arq.md R277, R280). -/
def execBcspCmd (h : HdrFields) (tail : Bytes) (s : State) : Host.Outcome State Fault Refusal := rxHeaderWord Config.typeCmd h tail s

/-- BCSP.ACL (30_encoding.md R134, R137, on receipt 43_arq.md R277, R280). -/
def execBcspAcl (h : HdrFields) (tail : Bytes) (s : State) : Host.Outcome State Fault Refusal := rxHeaderWord Config.typeAcl h tail s

/-- BCSP.EVT (30_encoding.md R134, R137, on receipt 43_arq.md R277, R280). -/
def execBcspEvt (h : HdrFields) (tail : Bytes) (s : State) : Host.Outcome State Fault Refusal := rxHeaderWord Config.typeEvt h tail s

/-- BCSP.ISO (30_encoding.md R134, R137, on receipt 43_arq.md R277, R280). -/
def execBcspIso (h : HdrFields) (tail : Bytes) (s : State) : Host.Outcome State Fault Refusal := rxHeaderWord Config.typeIso h tail s

/-- BCSP.VND (30_encoding.md R134, R137, on receipt 43_arq.md R277, R280). -/
def execBcspVnd (h : HdrFields) (tail : Bytes) (s : State) : Host.Outcome State Fault Refusal := rxHeaderWord Config.typeVnd h tail s

/-- BCSP.LINK (30_encoding.md R134, R137, on receipt 43_arq.md R277, R280). -/
def execBcspLink (h : HdrFields) (tail : Bytes) (s : State) : Host.Outcome State Fault Refusal := rxHeaderWord Config.typeLink h tail s

/-- BCSP.RSVD3 (30_encoding.md R137, R144, on receipt 43_arq.md R280). -/
def execBcspRsvd3 (h : HdrFields) (tail : Bytes) (s : State) : Host.Outcome State Fault Refusal := rxHeaderWord 3 h tail s

/-- BCSP.RSVD6 (30_encoding.md R137, R144, on receipt 43_arq.md R280). -/
def execBcspRsvd6 (h : HdrFields) (tail : Bytes) (s : State) : Host.Outcome State Fault Refusal := rxHeaderWord 6 h tail s

/-- BCSP.RSVD7 (30_encoding.md R137, R144, on receipt 43_arq.md R280). -/
def execBcspRsvd7 (h : HdrFields) (tail : Bytes) (s : State) : Host.Outcome State Fault Refusal := rxHeaderWord 7 h tail s

/-- BCSP.RSVD8 (30_encoding.md R137, R144, on receipt 43_arq.md R280). -/
def execBcspRsvd8 (h : HdrFields) (tail : Bytes) (s : State) : Host.Outcome State Fault Refusal := rxHeaderWord 8 h tail s

/-- BCSP.RSVD9 (30_encoding.md R137, R144, on receipt 43_arq.md R280). -/
def execBcspRsvd9 (h : HdrFields) (tail : Bytes) (s : State) : Host.Outcome State Fault Refusal := rxHeaderWord 9 h tail s

/-- BCSP.RSVD10 (30_encoding.md R137, R144, on receipt 43_arq.md R280). -/
def execBcspRsvd10 (h : HdrFields) (tail : Bytes) (s : State) : Host.Outcome State Fault Refusal := rxHeaderWord 10 h tail s

/-- BCSP.RSVD11 (30_encoding.md R137, R144, on receipt 43_arq.md R280). -/
def execBcspRsvd11 (h : HdrFields) (tail : Bytes) (s : State) : Host.Outcome State Fault Refusal := rxHeaderWord 11 h tail s

/-- BCSP.RSVD12 (30_encoding.md R137, R144, on receipt 43_arq.md R280). -/
def execBcspRsvd12 (h : HdrFields) (tail : Bytes) (s : State) : Host.Outcome State Fault Refusal := rxHeaderWord 12 h tail s

/-- BCSP.RSVD13 (30_encoding.md R137, R144, on receipt 43_arq.md R280). -/
def execBcspRsvd13 (h : HdrFields) (tail : Bytes) (s : State) : Host.Outcome State Fault Refusal := rxHeaderWord 13 h tail s

end Sys2Proof.Machine
end

