-- ==== Sys2Proof/Machine/Chain.lean ====
section
/-! DEFINITION. The transport-chain multiplexer operations (46_chain.md). -/

namespace Sys2Proof.Machine

/-- CHAIN.NEXT (46_chain.md R391, 60_exceptions.md R447; notes/assumptions/13.md). -/
def execChainNext (i : Nat) (s : State) : Host.Outcome State Fault Refusal :=
  onLive s (.index (chainNext s.params.chain.length i)) s

/-- CHAIN.PREV (46_chain.md R391, 60_exceptions.md R447; notes/assumptions/13.md). -/
def execChainPrev (i : Nat) (s : State) : Host.Outcome State Fault Refusal := onLive s (.index (chainPrev i)) s

/-- CHAIN.SEND_BYTES (46_chain.md R392). -/
def execChainSendBytes (bs : Bytes) (s : State) : Host.Outcome State Fault Refusal :=
  if s.bcspLive then
    if sendsToSink s.params.chain .bcsp then (writeSink bs s).outcome .done else refusedCall s
  else turnedAway s

/-- CHAIN.RECV_FRAME (46_chain.md R393). A private tag "must never reach the upper consumer" (R7): it is refused
(notes/assumptions/25.md). -/
def execChainRecvFrame (tag : Tag) (p : Bytes) (s : State) : Host.Outcome State Fault Refusal :=
  if s.bcspLive then
    if upperTag tag && deliversToConsumer s.params.chain .bcsp then .next ((s.emitUp ⟨tag, p⟩).answering .done)
    else refusedCall s
  else turnedAway s

/-- RX.BYTES (46_chain.md R396). -/
def execRxBytes (bs : Bytes) (s : State) : Host.Outcome State Fault Refusal := onBcsp (rxBytes bs s) (.count bs.length) s

/-- PHY.WRITE (46_chain.md R397). -/
def execPhyWrite (bs : Bytes) (s : State) : Host.Outcome State Fault Refusal :=
  if s.live then (writeSink bs s).outcome .done else turnedAway s

end Sys2Proof.Machine
end

