-- ==== Sys2Proof/Machine/H4.lean ====
section
/-! DEFINITION. The HCI packet sizer and the H4 adapter node (47_h4_sizer.md), and the receipt of an H4 unit by its type byte
(30_encoding.md R142). -/

namespace Sys2Proof.Machine

/-- SIZER.LEN (47_h4_sizer.md R420, 60_exceptions.md R447; notes/assumptions/13.md). -/
def execSizerLen (t : Byte) (h : Bytes) (s : State) : Host.Outcome State Fault Refusal :=
  onLive s (.sized (sizerLen s.params t h)) s

/-- H4.SEND_FRAME (47_h4_sizer.md R422). -/
def execH4SendFrame (tag : Tag) (payload : Bytes) (s : State) : Host.Outcome State Fault Refusal :=
  if s.h4Live then
    match h4Code s.params tag with
    | none => refusedCall s
    | some code =>
      if sendsToSink s.params.chain .h4Adapter then (writeSink (code :: payload) s).outcome .done else refusedCall s
  else turnedAway s

/-- The receipt of a run of bytes at the H4 adapter (R423). -/
def rxH4 (bs : Bytes) (s : State) : Host.Outcome State Fault Refusal :=
  if s.h4Live then .next ((h4Bytes bs s).answering (.count bs.length)) else turnedAway s

/-- H4.RECV_BYTES (47_h4_sizer.md R423). -/
def execH4RecvBytes (bs : Bytes) (s : State) : Host.Outcome State Fault Refusal := rxH4 bs s

/-- H4.CMD (30_encoding.md R142, on receipt 47_h4_sizer.md R423). -/
def execH4Cmd (rest : Bytes) (s : State) : Host.Outcome State Fault Refusal := rxH4 (Config.h4Cmd :: rest) s

/-- H4.ACL (30_encoding.md R142, on receipt 47_h4_sizer.md R423). -/
def execH4Acl (rest : Bytes) (s : State) : Host.Outcome State Fault Refusal := rxH4 (Config.h4Acl :: rest) s

/-- H4.EVT (30_encoding.md R142, on receipt 47_h4_sizer.md R423). -/
def execH4Evt (rest : Bytes) (s : State) : Host.Outcome State Fault Refusal := rxH4 (Config.h4Evt :: rest) s

/-- H4.ISO (30_encoding.md R142, on receipt 47_h4_sizer.md R423). -/
def execH4Iso (rest : Bytes) (s : State) : Host.Outcome State Fault Refusal := rxH4 (Config.h4Iso :: rest) s

/-- H4.UNKNOWN (30_encoding.md R142, on receipt 47_h4_sizer.md R423). -/
def execH4Unknown (t : Byte) (rest : Bytes) (s : State) : Host.Outcome State Fault Refusal := rxH4 (t :: rest) s

end Sys2Proof.Machine
end

