-- ==== Sys2Proof/Machine/Link.lean ====
section
/-! DEFINITION. The link-handshake FSM operations (44_link_fsm.md), the receipt of a link-control payload (30_encoding.md
R139, R141) and of the configuration byte (R140). All are enabled only while the Bcsp node is live. -/

namespace Sys2Proof.Machine

/-- LINK.DISPATCH (44_link_fsm.md R320). -/
def execLinkDispatch (m : LcMsg) (s : State) : Host.Outcome State Fault Refusal := onBcsp (linkDispatch m s) .done s

/-- LINK.TIMEOUT (44_link_fsm.md R321; notes/assumptions/41.md). -/
def execLinkTimeout (s : State) : Host.Outcome State Fault Refusal := onBcsp (linkTimeout s) .done s

/-- LINK.RX_SYNC (44_link_fsm.md R322). -/
def execLinkRxSync (s : State) : Host.Outcome State Fault Refusal := onBcsp (rxSync s) .done s

/-- LINK.RX_SYNC_RESP (44_link_fsm.md R323). -/
def execLinkRxSyncResp (s : State) : Host.Outcome State Fault Refusal := onBcsp (rxSyncResp s) .done s

/-- LINK.RX_CONF (44_link_fsm.md R324). -/
def execLinkRxConf (cfg : Option Byte) (s : State) : Host.Outcome State Fault Refusal := onBcsp (rxConf cfg s) .done s

/-- LINK.RX_CONF_RESP (44_link_fsm.md R325). -/
def execLinkRxConfResp (cfg : Option Byte) (s : State) : Host.Outcome State Fault Refusal := onBcsp (rxConfResp cfg s) .done s

/-- LINK.ENTER_ACTIVE (44_link_fsm.md R326). Asked for alone it runs in every state, not only at the two transitions R326
names (DESIGN CHOICE, notes/assumptions/44.md). -/
def execLinkEnterActive (s : State) : Host.Outcome State Fault Refusal := onBcsp (enterActive s) .done s

/-- LINK.SEND (44_link_fsm.md R327). -/
def execLinkSend (msg : LcName) (cfg : Option Byte) (s : State) : Host.Outcome State Fault Refusal := onBcsp (linkSend msg cfg s) .done s

/-- NEGOTIATE (44_link_fsm.md R330). -/
def execNegotiate (cfg : Option Byte) (s : State) : Host.Outcome State Fault Refusal := onBcsp s (.config (negotiate s.params cfg (cfgLocal s.params))) s

/-- The receipt of a type-15 payload: LINK.DISPATCH of what `lc_decode` makes of it (R280, R320). -/
def rxLcPayload (p : Bytes) (s : State) : Host.Outcome State Fault Refusal :=
  onBcsp (linkDispatch (lcDecode p) s) .done s

/-- LC.SYNC (30_encoding.md R139, on receipt 44_link_fsm.md R322). -/
def execLcSync (s : State) : Host.Outcome State Fault Refusal := rxLcPayload (lcPayload .sync none) s

/-- LC.SYNC_RESP (30_encoding.md R139, on receipt 44_link_fsm.md R323). -/
def execLcSyncResp (s : State) : Host.Outcome State Fault Refusal := rxLcPayload (lcPayload .syncResp none) s

/-- LC.CONF (30_encoding.md R139, on receipt 44_link_fsm.md R324). -/
def execLcConf (s : State) : Host.Outcome State Fault Refusal := rxLcPayload (lcPayload .conf none) s

/-- LC.CONF_RESP (30_encoding.md R139, on receipt 44_link_fsm.md R325). -/
def execLcConfResp (s : State) : Host.Outcome State Fault Refusal := rxLcPayload (lcPayload .confResp none) s

/-- LC.WAKEUP (30_encoding.md R139, on receipt 45_power_fsm.md R361). -/
def execLcWakeup (s : State) : Host.Outcome State Fault Refusal := rxLcPayload (lcPayload .wakeup none) s

/-- LC.WOKEN (30_encoding.md R139, on receipt 45_power_fsm.md R362). -/
def execLcWoken (s : State) : Host.Outcome State Fault Refusal := rxLcPayload (lcPayload .woken none) s

/-- LC.SLEEP (30_encoding.md R139, on receipt 45_power_fsm.md R363). -/
def execLcSleep (s : State) : Host.Outcome State Fault Refusal := rxLcPayload (lcPayload .sleep none) s

/-- LC.CONF_CFG (30_encoding.md R139, R141, on receipt 44_link_fsm.md R324). -/
def execLcConfCfg (cfg : Byte) (s : State) : Host.Outcome State Fault Refusal := rxLcPayload (lcPayload .conf (some cfg)) s

/-- LC.CONF_RESP_CFG (30_encoding.md R139, R141, on receipt 44_link_fsm.md R325). -/
def execLcConfRespCfg (cfg : Byte) (s : State) : Host.Outcome State Fault Refusal := rxLcPayload (lcPayload .confResp (some cfg)) s

/-- LC.UNKNOWN (30_encoding.md R141, R144, on receipt 44_link_fsm.md R320). -/
def execLcUnknown (p : Bytes) (s : State) : Host.Outcome State Fault Refusal := rxLcPayload p s

/-- CFG (30_encoding.md R140): the byte is captured as CONF_RESP captures it and committed by LINK.ENTER_ACTIVE
(44_link_fsm.md R325, R326; notes/assumptions/19.md). -/
def execCfg (window : BitVec 3) (swFlow : Bool) (crc : Bool) (version : BitVec 2) (s : State) : Host.Outcome State Fault Refusal :=
  onBcsp (enterActive { s with cfgPeer := some (cfgByte window swFlow crc version) }) .done s

end Sys2Proof.Machine
end

