-- ==== Sys2Proof/Machine/Power.lean ====
section
/-! DEFINITION. The power-handshake FSM and wakeup timer operations (45_power_fsm.md). All are enabled only while the Bcsp
node is live (head of 45_power_fsm.md). -/

namespace Sys2Proof.Machine

/-- PWR.RX_WAKEUP (45_power_fsm.md R361). -/
def execPwrRxWakeup (s : State) : Host.Outcome State Fault Refusal := onBcsp (rxWakeup s) .done s

/-- PWR.RX_WOKEN (45_power_fsm.md R362). -/
def execPwrRxWoken (s : State) : Host.Outcome State Fault Refusal := onBcsp (rxWoken s) .done s

/-- PWR.RX_SLEEP (45_power_fsm.md R363). -/
def execPwrRxSleep (s : State) : Host.Outcome State Fault Refusal := onBcsp (rxSleep s) .done s

/-- The state after PWR.SLEEP_REQ: SLEEP is queued and the block is asleep (R364). -/
def sleepReq (s : State) : State := { linkSend .sleep none s with localState := .lowPower }

/-- PWR.SLEEP_REQ (45_power_fsm.md R364). -/
def execPwrSleepReq (s : State) : Host.Outcome State Fault Refusal :=
  if s.sleepReqEnabled then .next ((sleepReq s).answering .done) else turnedAway s

/-- WAKE.FIRE (45_power_fsm.md R365). -/
def execWakeFire (s : State) : Host.Outcome State Fault Refusal :=
  if s.wakeFireEnabled then .next ((wakeFire s).answering .done) else turnedAway s

/-- WAKE.WORK (45_power_fsm.md R366). -/
def execWakeWork (s : State) : Host.Outcome State Fault Refusal :=
  if s.wakeWorkEnabled then (wakeWork s).outcome .done else turnedAway s

/-- WAKE.TIMEOUT (30_encoding.md R147, 45_power_fsm.md R366). Where WAKE.FIRE is not enabled the whole is turned away,
also while `wake_work` is 1 (DESIGN CHOICE, notes/assumptions/39.md). -/
def execWakeTimeout (s : State) : Host.Outcome State Fault Refusal :=
  if s.wakeFireEnabled then (wakeWork (wakeFire s)).outcome .done else turnedAway s

/-- TX.WAKE (45_power_fsm.md R368). -/
def execTxWake (s : State) : Host.Outcome State Fault Refusal :=
  if s.txWakeEnabled then (sendWakeup s).outcome .done else turnedAway s

/-- GUARD.ELAPSE (45_power_fsm.md R369). -/
def execGuardElapse (s : State) : Host.Outcome State Fault Refusal :=
  if s.guardElapseEnabled then .next (({ s with guardWait := false } : State).scheduleWorker.answering .done)
  else turnedAway s

/-- PWR.SEND_WAKEUP (45_power_fsm.md R370). Asked for alone it needs none of the conditions of TX.WAKE and WAKE.WORK
(DESIGN CHOICE, notes/assumptions/44.md). -/
def execPwrSendWakeup (s : State) : Host.Outcome State Fault Refusal :=
  if s.bcspLive then (sendWakeup s).outcome .done else turnedAway s

end Sys2Proof.Machine
end

