-- ==== Sys2Proof/Machine/Slip.lean ====
section
/-! DEFINITION. The SLIP codec operations (41_slip.md) and the receipt of one SLIP symbol. The codecs
have no condition of their own ("Enabled when: always"), but a halted or absent block runs no operation at all
(60_exceptions.md R447, 93_implementation_defined.md U18): they are turned away then (notes/assumptions/13.md). -/

namespace Sys2Proof.Machine

/-- SLIP.ENCODE (41_slip.md R200). Asked for alone it draws no allocation and does not fail: R200 and R105 count the
building of its frame among the allocations, but R443 gives a failure its consequence in TX.FRAME only (DESIGN CHOICE,
notes/assumptions/43.md). -/
def execSlipEncode (payload : Bytes) (escapeXonXoff : Bool) (s : State) : Host.Outcome State Fault Refusal :=
  onLive s (.bytes (slipEncode payload escapeXonXoff)) s

/-- SLIP.DECODE (41_slip.md R201). -/
def execSlipDecode (frame : Bytes) (s : State) : Host.Outcome State Fault Refusal :=
  onLive s (.bytes (slipDecode frame)) s

/-- The state after a scan: its ALLOC reports are raised and the draws it used are gone (R204). -/
def State.afterScan (s : State) (c : Collected) : State := raiseAllocs c.fails { s with allocDraws := c.draws }

/-- SLIP.COLLECT (41_slip.md R202). -/
def execSlipCollect (buf : Option Bytes) (incoming : Bytes) (s : State) : Host.Outcome State Fault Refusal :=
  let c := slipCollect s.allocDraws buf incoming
  onLive (s.afterScan c) (.collected c.buf c.consumed c.completed) s

/-- SLIP.RESYNC (41_slip.md R204): the ALLOC report, then the scan of the rest with no frame open. -/
def execSlipResync (incoming : Bytes) (i : Nat) (s : State) : Host.Outcome State Fault Refusal :=
  let c := slipCollect s.allocDraws none (incoming.drop i)
  onLive ((raiseFault .alloc s).afterScan c) (.collected c.buf (c.consumed + i) c.completed) s

/-- The receipt of one SLIP symbol: its bytes reach the receive path (R202, R396), and the answer is the data the decoder
gives for it (R131, R201). -/
def rxSymbol (bs data : Bytes) (s : State) : Host.Outcome State Fault Refusal :=
  if s.bcspLive then .next ((rxBytes bs s).answering (.symbol data)) else turnedAway s

/-- The data an unrecognised escape stands for: the escape byte, then its successor as an ordinary byte, unless that is
the closing sentinel (R144, R201). -/
def badEscData (x : Option Byte) : Bytes :=
  if x = some Config.slipEnd then [Config.slipEsc] else slipDecodeBody (Config.slipEsc :: x.toList)

/-- SLIP.END (30_encoding.md R131, on receipt 41_slip.md R202). -/
def execSlipEnd (s : State) : Host.Outcome State Fault Refusal := rxSymbol [Config.slipEnd] [] s

/-- SLIP.ESC_END (30_encoding.md R131, on receipt 41_slip.md R201). -/
def execSlipEscEnd (s : State) : Host.Outcome State Fault Refusal := rxSymbol [Config.slipEsc, Config.escEnd] [Config.slipEnd] s

/-- SLIP.ESC_ESC (30_encoding.md R131, on receipt 41_slip.md R201). -/
def execSlipEscEsc (s : State) : Host.Outcome State Fault Refusal := rxSymbol [Config.slipEsc, Config.escEsc] [Config.slipEsc] s

/-- SLIP.ESC_XON (30_encoding.md R131, on receipt 41_slip.md R201). -/
def execSlipEscXon (s : State) : Host.Outcome State Fault Refusal := rxSymbol [Config.slipEsc, Config.escXon] [Config.xon] s

/-- SLIP.ESC_XOFF (30_encoding.md R131, on receipt 41_slip.md R201). -/
def execSlipEscXoff (s : State) : Host.Outcome State Fault Refusal := rxSymbol [Config.slipEsc, Config.escXoff] [Config.xoff] s

/-- SLIP.BADESC (30_encoding.md R144; `none` is an escape byte that nothing follows). -/
def execSlipBadEsc (x : Option Byte) (s : State) : Host.Outcome State Fault Refusal := rxSymbol (Config.slipEsc :: x.toList) (badEscData x) s

/-- SLIP.LIT (30_encoding.md R131, on receipt 41_slip.md R201). -/
def execSlipLit (b : Byte) (s : State) : Host.Outcome State Fault Refusal := rxSymbol [b] [b] s

end Sys2Proof.Machine
end

