-- ==== Sys2Proof/Machine/Sys.lean ====
section
/-! DEFINITION. Initialisation, teardown (70_reset_and_hazards.md R490, R492) and the fault primitive (60_exceptions.md R446). -/

namespace Sys2Proof.Machine

/-- SYS.INIT (70_reset_and_hazards.md R490). -/
def execSysInit (p : Params) (s : State) : Host.Outcome State Fault Refusal :=
  if s.initEnabled then .next ((s.initWith p).answering .done) else refusedCall s

/-- SYS.TEARDOWN (70_reset_and_hazards.md R492). -/
def execSysTeardown (s : State) : Host.Outcome State Fault Refusal :=
  if s.alive then .next (s.teardown.answering .done) else turnedAway s

/-- raise_Fault (60_exceptions.md R446). -/
def execRaiseFault (r : Report) (s : State) : Host.Outcome State Fault Refusal :=
  onLive (raiseFault r s) .done s

end Sys2Proof.Machine
end

