-- ==== Sys2Proof/Machine/Dispatch.lean ====
section
/-! DEFINITION. One arm per constructor of Instr, in the order of spec/opcode_table.json. -/

namespace Sys2Proof.Machine

def exec (i : Instr) (s : State) : Host.Outcome State Fault Refusal :=
  match i with
  | .slipEncode payload escapeXonXoff => Sys2Proof.Machine.execSlipEncode payload escapeXonXoff s
  | .slipDecode frame => Sys2Proof.Machine.execSlipDecode frame s
  | .slipCollect buf incoming => Sys2Proof.Machine.execSlipCollect buf incoming s
  | .slipResync incoming k => Sys2Proof.Machine.execSlipResync incoming k s
  | .crcUpdate reg d => Sys2Proof.Machine.execCrcUpdate reg d s
  | .crc16 bs => Sys2Proof.Machine.execCrc16 bs s
  | .hdrChecksum b0 b1 b2 => Sys2Proof.Machine.execHdrChecksum b0 b1 b2 s
  | .bcspPack payload type reliable ack useCrc => Sys2Proof.Machine.execBcspPack payload type reliable ack useCrc s
  | .bcspUnpack f => Sys2Proof.Machine.execBcspUnpack f s
  | .arqClassify tag => Sys2Proof.Machine.execArqClassify tag s
  | .upSend tag payload => Sys2Proof.Machine.execUpSend tag payload s
  | .txStep => Sys2Proof.Machine.execTxStep s
  | .txFrame u reliable => Sys2Proof.Machine.execTxFrame u reliable s
  | .txAckFrame => Sys2Proof.Machine.execTxAckFrame s
  | .rxFrame f => Sys2Proof.Machine.execRxFrame f s
  | .arqRxSeq n => Sys2Proof.Machine.execArqRxSeq n s
  | .arqRxAck a => Sys2Proof.Machine.execArqRxAck a s
  | .arqDeliver h p arqOn => Sys2Proof.Machine.execArqDeliver h p arqOn s
  | .rtxFire => Sys2Proof.Machine.execRtxFire s
  | .rtxWork => Sys2Proof.Machine.execRtxWork s
  | .rtxTimeout => Sys2Proof.Machine.execRtxTimeout s
  | .arqTimeout => Sys2Proof.Machine.execArqTimeout s
  | .arqReload => Sys2Proof.Machine.execArqReload s
  | .linkDispatch m => Sys2Proof.Machine.execLinkDispatch m s
  | .linkTimeout => Sys2Proof.Machine.execLinkTimeout s
  | .linkRxSync => Sys2Proof.Machine.execLinkRxSync s
  | .linkRxSyncResp => Sys2Proof.Machine.execLinkRxSyncResp s
  | .linkRxConf cfg => Sys2Proof.Machine.execLinkRxConf cfg s
  | .linkRxConfResp cfg => Sys2Proof.Machine.execLinkRxConfResp cfg s
  | .linkEnterActive => Sys2Proof.Machine.execLinkEnterActive s
  | .linkSend msg cfg => Sys2Proof.Machine.execLinkSend msg cfg s
  | .negotiate cfg => Sys2Proof.Machine.execNegotiate cfg s
  | .pwrRxWakeup => Sys2Proof.Machine.execPwrRxWakeup s
  | .pwrRxWoken => Sys2Proof.Machine.execPwrRxWoken s
  | .pwrRxSleep => Sys2Proof.Machine.execPwrRxSleep s
  | .pwrSleepReq => Sys2Proof.Machine.execPwrSleepReq s
  | .wakeFire => Sys2Proof.Machine.execWakeFire s
  | .wakeWork => Sys2Proof.Machine.execWakeWork s
  | .wakeTimeout => Sys2Proof.Machine.execWakeTimeout s
  | .txWake => Sys2Proof.Machine.execTxWake s
  | .guardElapse => Sys2Proof.Machine.execGuardElapse s
  | .pwrSendWakeup => Sys2Proof.Machine.execPwrSendWakeup s
  | .run => Sys2Proof.Machine.execRun s
  | .peer d => Sys2Proof.Machine.execPeer d s
  | .chainNext k => Sys2Proof.Machine.execChainNext k s
  | .chainPrev k => Sys2Proof.Machine.execChainPrev k s
  | .chainSendBytes bs => Sys2Proof.Machine.execChainSendBytes bs s
  | .chainRecvFrame tag p => Sys2Proof.Machine.execChainRecvFrame tag p s
  | .rxBytes bs => Sys2Proof.Machine.execRxBytes bs s
  | .phyWrite bs => Sys2Proof.Machine.execPhyWrite bs s
  | .sizerLen t h => Sys2Proof.Machine.execSizerLen t h s
  | .h4SendFrame tag payload => Sys2Proof.Machine.execH4SendFrame tag payload s
  | .h4RecvBytes bs => Sys2Proof.Machine.execH4RecvBytes bs s
  | .sysInit p => Sys2Proof.Machine.execSysInit p s
  | .sysTeardown => Sys2Proof.Machine.execSysTeardown s
  | .raiseFault r => Sys2Proof.Machine.execRaiseFault r s
  | .slipEnd => Sys2Proof.Machine.execSlipEnd s
  | .slipEscEnd => Sys2Proof.Machine.execSlipEscEnd s
  | .slipEscEsc => Sys2Proof.Machine.execSlipEscEsc s
  | .slipEscXon => Sys2Proof.Machine.execSlipEscXon s
  | .slipEscXoff => Sys2Proof.Machine.execSlipEscXoff s
  | .slipBadEsc x => Sys2Proof.Machine.execSlipBadEsc x s
  | .slipLit b => Sys2Proof.Machine.execSlipLit b s
  | .bcspAck h tail => Sys2Proof.Machine.execBcspAck h tail s
  | .bcspCmd h tail => Sys2Proof.Machine.execBcspCmd h tail s
  | .bcspAcl h tail => Sys2Proof.Machine.execBcspAcl h tail s
  | .bcspEvt h tail => Sys2Proof.Machine.execBcspEvt h tail s
  | .bcspIso h tail => Sys2Proof.Machine.execBcspIso h tail s
  | .bcspVnd h tail => Sys2Proof.Machine.execBcspVnd h tail s
  | .bcspLink h tail => Sys2Proof.Machine.execBcspLink h tail s
  | .bcspRsvd3 h tail => Sys2Proof.Machine.execBcspRsvd3 h tail s
  | .bcspRsvd6 h tail => Sys2Proof.Machine.execBcspRsvd6 h tail s
  | .bcspRsvd7 h tail => Sys2Proof.Machine.execBcspRsvd7 h tail s
  | .bcspRsvd8 h tail => Sys2Proof.Machine.execBcspRsvd8 h tail s
  | .bcspRsvd9 h tail => Sys2Proof.Machine.execBcspRsvd9 h tail s
  | .bcspRsvd10 h tail => Sys2Proof.Machine.execBcspRsvd10 h tail s
  | .bcspRsvd11 h tail => Sys2Proof.Machine.execBcspRsvd11 h tail s
  | .bcspRsvd12 h tail => Sys2Proof.Machine.execBcspRsvd12 h tail s
  | .bcspRsvd13 h tail => Sys2Proof.Machine.execBcspRsvd13 h tail s
  | .lcSync => Sys2Proof.Machine.execLcSync s
  | .lcSyncResp => Sys2Proof.Machine.execLcSyncResp s
  | .lcConf => Sys2Proof.Machine.execLcConf s
  | .lcConfResp => Sys2Proof.Machine.execLcConfResp s
  | .lcWakeup => Sys2Proof.Machine.execLcWakeup s
  | .lcWoken => Sys2Proof.Machine.execLcWoken s
  | .lcSleep => Sys2Proof.Machine.execLcSleep s
  | .lcConfCfg cfg => Sys2Proof.Machine.execLcConfCfg cfg s
  | .lcConfRespCfg cfg => Sys2Proof.Machine.execLcConfRespCfg cfg s
  | .lcUnknown p => Sys2Proof.Machine.execLcUnknown p s
  | .cfg window swFlow crc version => Sys2Proof.Machine.execCfg window swFlow crc version s
  | .h4Cmd rest => Sys2Proof.Machine.execH4Cmd rest s
  | .h4Acl rest => Sys2Proof.Machine.execH4Acl rest s
  | .h4Evt rest => Sys2Proof.Machine.execH4Evt rest s
  | .h4Iso rest => Sys2Proof.Machine.execH4Iso rest s
  | .h4Unknown t rest => Sys2Proof.Machine.execH4Unknown t rest s

end Sys2Proof.Machine
end

