-- ==== Sys2Proof/Machine/Fetch.lean ====
section
/-! DEFINITION. Where the next instruction comes from: the head of the coming events. The block has no program counter
and fetches no instruction words (10_state.md R40, 20_memory.md R103); an event is an operation asked for by its agent, a
transaction on a port, which the chain routes to a node (46_chain.md R392 to R394), or the bytes of one encoding at the
layer that decodes it. -/

namespace Sys2Proof.Machine

/-- What the head of the events comes to. -/
inductive Fetched where
  /-- nothing is offered: the block is idle (R456, R508) -/
  | idle
  /-- a node call the chain has no such call for: it is refused (R394) -/
  | refusedCall
  | instr (i : Instr)
  deriving DecidableEq, Repr

/-- Port `up_tx`: `send_frame` at a Consumer calls `send_frame` on the next node (R394), so the call comes to the first
node after node 0 that is no Consumer (notes/assumptions/38.md). -/
def fetchUpTx (chain : List NodeKind) (tag : Tag) (payload : Bytes) : Fetched :=
  match chain.tail.find? (· != .consumer) with
  | some .bcsp => .instr (.upSend tag payload)
  | some .h4Adapter => .instr (.h4SendFrame tag payload)
  | some .consumer | some .physicalSink | none => .refusedCall

/-- Port `phy_rx`: the source side of a PhysicalSink calls `receive_bytes` on the node before it (R393, R394), so the call
comes to the last node before the end of the chain that is no PhysicalSink (notes/assumptions/38.md). -/
def fetchPhyRx (chain : List NodeKind) (bs : Bytes) : Fetched :=
  match chain.dropLast.reverse.find? (· != .physicalSink) with
  | some .bcsp => .instr (.rxBytes bs)
  | some .h4Adapter => .instr (.h4RecvBytes bs)
  | some .consumer | some .physicalSink | none => .refusedCall

/-- What a layer does with bytes that are not one encoding of it: the receive operation of the layer takes them. The
collector scans a run of any length (R396, also an empty one), RX.FRAME drops a frame shorter than a header silently
(R234, R277, R445), the H4 adapter takes a run of any length (R423). A configuration field is never longer than one
byte, and a payload with such a field is an unknown message and is dropped (R141, R320); so is the field of no byte
(notes/assumptions/18.md). -/
def receiveOther : WireFormat → Bytes → Instr
  | .slip, bs => .rxBytes bs
  | .bcsp, bs => .rxFrame bs
  | .lc, bs => .linkDispatch (lcDecode bs)
  | .cfg, _ => .linkDispatch .unknown
  | .h4t, bs => .h4RecvBytes bs

/-- The bytes at a layer: the instruction they encode (R148), or the layer's receive operation where they are no one
encoding. -/
def fetchWire (f : WireFormat) (bs : Bytes) : Instr :=
  match decode f bs with
  | .ok i => i
  | .error _ => receiveOther f bs

/-- The next instruction. -/
def fetch (s : State) : Fetched :=
  match s.events with
  | [] => .idle
  | .op i :: _ => .instr i
  | .upTx tag payload :: _ => fetchUpTx s.params.chain tag payload
  | .phyRx bs :: _ => fetchPhyRx s.params.chain bs
  | .wire f bs :: _ => .instr (fetchWire f bs)

/-- The state in which the next instruction runs: its event is taken from the list. -/
def State.popEvent (s : State) : State := { s with events := s.events.tail }

/-- The instance as an H4 unit finds it: a chain that has an H4 adapter node to receive it (R142, R390, R423). Other
formats arrive in any chain. -/
def State.chainFor (s : State) (f : WireFormat) : State :=
  if f = .h4t then { s with params := { s.params with chain := Config.h4Chain } } else s

end Sys2Proof.Machine
end

