-- ==== Sys2Proof/Machine/Step.lean ====
section
/-! DEFINITION. One step of the machine, and how an instruction word of the table is placed where the next step fetches
it. -/

namespace Sys2Proof.Machine

/-- One step: the next event runs as one atomic operation (00_scope.md R14). With no event the block is idle: nothing
changes (R456, R508; notes/assumptions/23.md). -/
def step (s : State) : Host.Outcome State Fault Refusal :=
  match fetch s with
  | .idle => .next s
  | .refusedCall => refusedCall s.popEvent
  | .instr i => if i.wf then exec i s.popEvent else .refused .illFormed

/-- The state in which the bytes of a table word stand at the head of the coming events, at the layer that decodes them;
for an H4 type byte the chain also holds the H4 adapter that receives it (notes/assumptions/20.md). -/
def State.withFetchWord (s : State) (nbits w : Nat) : State :=
  match tableWire nbits w with
  | some (f, bs) => { s.chainFor f with events := .wire f bs :: s.events }
  | none => s

end Sys2Proof.Machine
end

