-- ==== Sys2Proof/Safety.lean ====
section
/-! DEFINITION. What the claims speak of: the form of the storage and of the registers every step keeps, the sliding
window invariant (10_state.md R36), which instructions act on their own, and the reference readings of the codecs that
the rules give beside their pseudocode. -/

namespace Sys2Proof

/-! ### Instructions and units -/

/-- The instruction leaves the counters in step with the queues. The helpers that write the counters alone (BCSP.PACK and
TX.FRAME number a frame that no queue then holds; LINK.ENTER_ACTIVE and the bare configuration byte reset the counters)
are no operations of an agent (R148): they do so only for an unreliable frame, or with nothing outstanding (R326). -/
def Instr.countersBelong (i : Instr) (s : Machine.State) : Prop :=
  match i with
  | .bcspPack _ _ reliable _ _ => reliable = false
  | .txFrame _ reliable => reliable = false
  | .linkEnterActive => s.sentQ = []
  | .cfg _ _ _ _ => s.sentQ = []
  | _ => True

/-- SYS.INIT and SYS.TEARDOWN, the only operations a halted block has (R447). -/
def Instr.supervision : Instr → Bool
  | .sysInit _ | .sysTeardown => true
  | _ => false

/-- `is_power` (R272): a WAKEUP, WOKEN or SLEEP message (R139). -/
def QUnit.power (u : QUnit) : Prop :=
  u.tag = .link ∧ (u.payload = [0x05, 0xFA] ∨ u.payload = [0x06, 0xF9] ∨ u.payload = [0x07, 0x78])

end Sys2Proof

namespace Sys2Proof.Machine

/-! ### Invariants -/

/-- The collector holds `none` or a sentinel followed by bytes that are no sentinel (R48, R202). -/
def collectorOk (c : Option Bytes) : Prop :=
  match c with
  | none => True
  | some f => ∃ body, f = Config.slipEnd :: body ∧ Config.slipEnd ∉ body

/-- Every unit of a queue has a payload the length field can express (R9, R271). -/
def queueOk (q : List QUnit) : Prop := ∀ u ∈ q, u.payload.length ≤ Config.maxPayload

/-- Every unit has a tag of ports `up_tx` and `up_rx` (R7, R453). -/
def upperUnits (q : List QUnit) : Prop := ∀ u ∈ q, upperTag u.tag = true

/-- The form of parameters, storage and registers that every step keeps. -/
structure StorageInv (s : State) : Prop where
  /-- R8, R390 -/
  params : s.params.wf = true
  /-- R48 -/
  collector : collectorOk s.collector
  /-- R9, R47 -/
  unrelQ : queueOk s.unrelQ
  relQ : queueOk s.relQ
  sentQ : queueOk s.sentQ
  /-- only what the upper layer handed over is sent reliably (R270, R271) -/
  relTags : upperUnits s.relQ
  sentTags : upperUnits s.sentQ
  /-- the private tags never reach the upper consumer (R7, R453) -/
  upRx : upperUnits s.upRx
  /-- the committed window is in 1..7 (R37, R503) -/
  window : s.alive = true → 1 ≤ s.window ∧ s.window ≤ 7
  /-- the values Initialized and WaitPeerActive are never assigned to `peer_state` (R329) -/
  peer : s.alive = true → s.peerState ≠ .initialized ∧ s.peerState ≠ .waitPeerActive

/-- The sliding window invariant with the credit equation (R36), claimed while the context exists and is not halted
(R447); before the link is up nothing is outstanding (R272, R326). -/
structure WindowInv (s : State) : Prop where
  distance : s.alive = true → s.halted = false → (s.seq - s.rack).toNat = s.sentQ.length
  bound : s.alive = true → s.halted = false → s.sentQ.length ≤ s.window
  credit : s.alive = true → s.halted = false → s.linkActive = true → s.credit + s.sentQ.length = s.window
  quiet : s.alive = true → s.halted = false → s.linkActive = false → s.sentQ = []

/-- How far the handshake has come: Uninitialized < Initialized < WaitPeerActive < Active, and LowPower is a state of
an established link (R41). -/
def rank : LinkState → Nat
  | .uninitialized => 0
  | .initialized => 1
  | .waitPeerActive => 2
  | .active => 3
  | .lowPower => 3

/-! ### Conditions on a state -/

/-- The Bcsp node's operations are enabled: `x[alive] = 1`, `x[halted] = 0`, and the chain has the node (head of
43_arq.md, R395). -/
structure State.inService (s : State) : Prop where
  alive : s.alive = true
  running : s.halted = false
  node : NodeKind.bcsp ∈ s.params.chain

/-- The same for the H4 adapter node (R395, R447). -/
structure State.inH4Service (s : State) : Prop where
  alive : s.alive = true
  running : s.halted = false
  node : NodeKind.h4Adapter ∈ s.params.chain

/-- The link is Active or LowPower: the sequencer is on (`arq_on`, R277). -/
def State.established (s : State) : Prop := s.localState = .active ∨ s.localState = .lowPower

/-- `len(rel_q) > 0`, credit and an established link: `rel_ready` (R272). -/
def State.reliableReady (s : State) : Prop := s.established ∧ s.relQ ≠ [] ∧ 0 < s.credit

/-- `work` (R272). -/
def State.hasWork (s : State) : Prop := s.unrelQ ≠ [] ∨ s.reliableReady ∨ s.ackRequired = true

/-- `gate_open` (R367). -/
def State.gateIsOpen (s : State) : Prop := s.peerState ≠ .lowPower ∨ (s.wakeupPending = true ∧ s.guardWait = false)

/-- How many bytes one answer of the sink takes (R397). -/
def SinkAnswer.taken : SinkAnswer → Nat
  | .accepted k => k
  | .hardError => 0
  | .stalled => 0

/-- A list of runs offered to RX.BYTES one after the other (R94). -/
def receiveRuns : List Bytes → State → Host.Outcome State Fault Refusal
  | [], s => .next s
  | run :: runs, s =>
    match exec (.rxBytes run) s with
    | .next t => receiveRuns runs t
    | .fault f => .fault f
    | .refused r => .refused r

/-! ### Environments -/

/-- Every coming allocation succeeds (the premise R105 asks a claim to name). -/
def State.allocsSucceed (s : State) : Prop := ∀ d ∈ s.allocDraws, d = true

/-- The sink takes every write whole (the premise R397 asks a claim to name). -/
def State.perfectSink (s : State) : Prop := s.sinkDraws = []

/-! ### Reference readings -/

/-- What R201's loop reads from the bytes between two sentinels, one clause per branch. -/
inductive SlipReads : Bytes → Bytes → Prop where
  | done : SlipReads [] []
  | escaped (x d : Byte) (rest out : Bytes)
      (code : (x = 0xDC ∧ d = 0xC0) ∨ (x = 0xDD ∧ d = 0xDB) ∨ (x = 0xDE ∧ d = 0x11) ∨ (x = 0xDF ∧ d = 0x13))
      (h : SlipReads rest out) : SlipReads (0xDB :: x :: rest) (d :: out)
  | unrecognised (x : Byte) (rest out : Bytes) (hx : x ≠ 0xDC ∧ x ≠ 0xDD ∧ x ≠ 0xDE ∧ x ≠ 0xDF)
      (h : SlipReads (x :: rest) out) : SlipReads (0xDB :: x :: rest) (0xDB :: out)
  | cutOff : SlipReads [0xDB] [0xDB]
  | plain (b : Byte) (rest out : Bytes) (hb : b ≠ 0xDB) (h : SlipReads rest out) : SlipReads (b :: rest) (b :: out)

/-- One bit of the most-significant-bit-first CRC with the polynomial 0x1021 (R231, second statement). -/
def msbCrcBit (reg : BitVec 16) (d : Bool) : BitVec 16 :=
  if reg.getLsbD 15 ^^ d then (reg <<< 1) ^^^ 0x1021 else reg <<< 1

/-- The bits of a byte as they appear on the serial line, bit 0 first (R92). -/
def lineBits (b : Byte) : List Bool := (List.range 8).map b.getLsbD

/-- The most-significant-bit-first CRC of a bit sequence, from 0xFFFF (R231, second statement). -/
def msbCrc (bits : List Bool) : BitVec 16 := bits.foldl msbCrcBit 0xFFFF

/-- The header R134 lays out, as one 32-bit word read most significant bit first: checksum, length, type, reliable,
crc_present, ack, seq. -/
def headerWord (checksum : Byte) (length : BitVec 12) (type : BitVec 4) (reliable crc : Bool) (ack seq : Count3) :
    BitVec 32 :=
  checksum ++ length ++ type ++ BitVec.ofBool reliable ++ BitVec.ofBool crc ++ ack ++ seq

/-- The bytes of a header word, `b0` first (R134). -/
def headerBytes (w : BitVec 32) : Bytes :=
  [w.extractLsb' 0 8, w.extractLsb' 8 8, w.extractLsb' 16 8, w.extractLsb' 24 8]

end Sys2Proof.Machine
end

