-- ==== Sys2Proof/Certificates/Slice0/Obligations.lean ====
section
/-! DEFINITION. The statements about the model, in the order of the spec's files: encodings and the step, the codecs, the
sequencer, the link and power handshakes, the chain, the H4 adapter, faults, initialisation, and the invariants. In an
equation `exec i s = .next { s with … }` every field not named is unchanged: the equation is also the frame. Bytes and
codes are written as numbers (they are the spec's, PRESUMED where 30_encoding.md marks them so; notes/assumptions/21.md).
`answer` is the model's own field (notes/assumptions/11.md).
-/

open Sys2Proof Sys2Proof.Machine

/-! ### Encodings and the step -/

/-- Decoding an encoding gives the instruction back, for every wire row and every operand (30_encoding.md R131, R134,
R139 to R142). The codes and bit places are PRESUMED (notes/assumptions/21.md); the receipt each row stands for is
the model's reading (18.md). -/
def Obligations.DecodingAnEncodingGivesTheInstruction : Prop :=
  ∀ (i : Instr) (f : WireFormat) (bs : Bytes), i.wf = true → encode i = some (f, bs) → decode f bs = .ok i

/-- What the decoder reads is well formed and is encoded by the bytes it was read from, but for bit 7 of the
configuration byte, which is reserved: sent as 0 and ignored on receipt (R140). The codes and bit places are
PRESUMED (notes/assumptions/21.md). -/
def Obligations.DecodedInstructionEncodesToItsBytes : Prop :=
  ∀ (f : WireFormat) (bs : Bytes) (i : Instr), decode f bs = .ok i →
    i.wf = true ∧ encode i = some (f, if f = .cfg then bs.map (· &&& 0x7F) else bs)

/-- Words written out from the spec's encodings decode to the instructions they stand for (R131, R134, R139, R140,
R142). The codes and bit places are PRESUMED (notes/assumptions/21.md). -/
def Obligations.WrittenOutWordsDecode : Prop :=
  decode .slip [0xC0] = .ok .slipEnd ∧
  decode .slip [0xDB, 0xDF] = .ok .slipEscXoff ∧
  decode .bcsp [0xEB, 0x31, 0x00, 0xE3, 0x03, 0x0C, 0x00, 0xB7, 0xCC] =
    .ok (.bcspCmd ⟨3, 5, true, true, 3, 0xE3⟩ [0x03, 0x0C, 0x00, 0xB7, 0xCC]) ∧
  decode .bcsp [0x00, 0x32, 0x12, 0xBB] = .ok (.bcspAcl ⟨0, 0, false, false, 0x123, 0xBB⟩ []) ∧
  decode .lc [0x04, 0x7B, 0x0A] = .ok (.lcConfRespCfg 0x0A) ∧
  decode .cfg [0x9B] = .ok (.cfg 3 true true 0) ∧
  decode .h4t [0x05, 0x01] = .ok (.h4Iso [0x01])

/-- A step runs the instruction at the head of the coming events: an operation asked for, or the bytes of an encoding
that decode to it; a table word is placed so that the next step runs what it decodes to. All a step adds is to take
the event from the list (notes/assumptions/1.md, 20.md, the model's form). -/
def Obligations.StepRunsTheNextInstruction : Prop :=
  (∀ (s : State) (i : Instr) (rest : List Event), i.wf = true →
    (s.events = .op i :: rest → step s = exec i { s with events := rest }) ∧
    (∀ f bs, s.events = .wire f bs :: rest → decode f bs = .ok i → step s = exec i { s with events := rest })) ∧
  (∀ (nbits w : Nat) (i : Instr) (s : State), decodeTableWord nbits w = some i →
    ∃ f bs, tableWire nbits w = some (f, bs) ∧ decode f bs = .ok i ∧
      step (s.withFetchWord nbits w) = exec i (s.chainFor f))

/-- The two data ports are routed by the chain: a packet on `up_tx` goes to the first node after the consumer end that is
no consumer, a run of bytes on `phy_rx` to the last node before the sink that is no sink; where that node has no such
call, or there is none, it is refused (46_chain.md R392 to R394). Bytes at a layer that are no one encoding are taken
by the layer's receive operation. That inner nodes of an end's kind pass the call on, the receipt at a layer, and the
forms of the refusals and of the idle step are the model's (notes/assumptions/10.md, 18.md, 23.md, 28.md, 38.md). -/
def Obligations.PortTransactionsAreRoutedByTheChain : Prop :=
  (∀ (s : State) (rest : List Event) (n : Nat) (c k : NodeKind) (others : List NodeKind) (tag : Tag) (p : Bytes),
    s.events = .upTx tag p :: rest → s.params.chain = c :: List.replicate n .consumer ++ k :: others →
    (k = .bcsp → step s = exec (.upSend tag p) { s with events := rest }) ∧
    (k = .h4Adapter → step s = exec (.h4SendFrame tag p) { s with events := rest }) ∧
    (k = .physicalSink → step s = .next { s with events := rest, answer := .refused })) ∧
  (∀ (s : State) (rest : List Event) (n : Nat) (c : NodeKind) (tag : Tag) (p : Bytes),
    s.events = .upTx tag p :: rest → s.params.chain = c :: List.replicate n .consumer →
    step s = .next { s with events := rest, answer := .refused }) ∧
  (∀ (s : State) (rest : List Event) (n : Nat) (k c : NodeKind) (others : List NodeKind) (bs : Bytes),
    s.events = .phyRx bs :: rest → s.params.chain = others ++ k :: List.replicate n .physicalSink ++ [c] →
    (k = .bcsp → step s = exec (.rxBytes bs) { s with events := rest }) ∧
    (k = .h4Adapter → step s = exec (.h4RecvBytes bs) { s with events := rest }) ∧
    (k = .consumer → step s = .next { s with events := rest, answer := .refused })) ∧
  (∀ (s : State) (rest : List Event) (n : Nat) (c : NodeKind) (bs : Bytes),
    s.events = .phyRx bs :: rest → s.params.chain = List.replicate n .physicalSink ++ [c] →
    step s = .next { s with events := rest, answer := .refused }) ∧
  (∀ (s : State) (rest : List Event),
    (s.events = [] → step s = .next s) ∧
    (∀ f bs r, s.events = .wire f bs :: rest → decode f bs = .error r → ∃ i,
      (f, i) ∈ ([(.slip, .rxBytes bs), (.bcsp, .rxFrame bs), (.cfg, .linkDispatch .unknown), (.h4t, .h4RecvBytes bs)] :
        List (WireFormat × Instr)) ∧
      step s = exec i { s with events := rest }) ∧
    (∀ i : Instr, s.events = .op i :: rest → i.wf = false → step s = .refused .illFormed))

/-! ### The SLIP codec (41_slip.md) -/

/-- SLIP.ENCODE (R200): the escaped payload between two sentinels; its length; no sentinel inside and, with the flag, no
flow-control byte inside. The four second escape bytes are PRESUMED (notes/assumptions/21.md); that it runs only in a
live block is DEDUCED (13.md), and that it draws no allocation is the model's choice (43.md). -/
def Obligations.SlipEncodeWritesTheEscapedFrame : Prop :=
  ∀ (payload : Bytes) (flow : Bool) (s : State), s.alive = true → s.halted = false → ∃ body : Bytes,
    exec (.slipEncode payload flow) s = .next { s with answer := .bytes ([0xC0] ++ body ++ [0xC0]) } ∧
    body = payload.flatMap (fun b =>
      if b = 0xC0 then [0xDB, 0xDC]
      else if b = 0xDB then [0xDB, 0xDD]
      else if b = 0x11 ∧ flow = true then [0xDB, 0xDE]
      else if b = 0x13 ∧ flow = true then [0xDB, 0xDF]
      else [b]) ∧
    body.length =
      payload.length + payload.countP (fun b => b == 0xC0 || b == 0xDB || (flow && (b == 0x11 || b == 0x13))) ∧
    (0xC0 : Byte) ∉ body ∧
    (flow = true → (0x11 : Byte) ∉ body ∧ (0x13 : Byte) ∉ body)

/-- The round trip of R203: decoding an encoded payload gives it back; the collector takes an encoded non-empty payload
whole when no allocation fails, and takes that of the empty payload as a start sentinel. The spec marks R203 as its
own derivation; a list of allocation draws is the model's form (notes/assumptions/6.md), and that the codec runs only in
a live block is DEDUCED (13.md). -/
def Obligations.SlipRoundTrip : Prop :=
  ∀ (payload : Bytes) (flow : Bool) (s : State), s.alive = true → s.halted = false →
    exec (.slipDecode (slipEncode payload flow)) s = .next { s with answer := .bytes payload } ∧
    (s.allocsSucceed → payload ≠ [] →
      exec (.slipCollect none (slipEncode payload flow)) s = .next { s with
        allocDraws := s.allocDraws.drop ((slipEncode payload flow).length - 2)
        answer := .collected (some (slipEncode payload flow)) (slipEncode payload flow).length true }) ∧
    exec (.slipCollect none (slipEncode [] flow)) s = .next { s with answer := .collected (some [0xC0]) 2 false }

/-- SLIP.DECODE (R201) reads every body as the branches of its loop say (`SlipReads`), and reads every body some way.
The four second escape bytes are PRESUMED (notes/assumptions/21.md); that an unrecognised 0xDB is kept is the spec's
own choice (R201); that it runs only in a live block is DEDUCED (13.md). -/
def Obligations.SlipDecodeReadsTheBody : Prop :=
  (∀ (body out : Bytes) (s : State), s.alive = true → s.halted = false → (0xC0 : Byte) ∉ body → SlipReads body out →
    exec (.slipDecode ([0xC0] ++ body ++ [0xC0])) s = .next { s with answer := .bytes out }) ∧
  (∀ body : Bytes, ∃ out, SlipReads body out)

/-- SLIP.COLLECT (R202) when no allocation fails, for every collector and every run of bytes: garbage `g` without
sentinel, `k + 1` sentinels, a body `x` without sentinel, and what follows a closing sentinel. A list of allocation
draws is the model's form (notes/assumptions/6.md); that it runs only in a live block is DEDUCED (13.md). -/
def Obligations.SlipCollectScansForOneFrame : Prop :=
  ∀ (s : State) (g x f rest : Bytes) (k : Nat), s.alive = true → s.halted = false → s.allocsSucceed →
    (0xC0 : Byte) ∉ g → (0xC0 : Byte) ∉ x →
    exec (.slipCollect none g) s = .next { s with answer := .collected none g.length false } ∧
    exec (.slipCollect none (g ++ List.replicate (k + 1) 0xC0 ++ x)) s = .next { s with
      allocDraws := s.allocDraws.drop x.length
      answer := .collected (some ([0xC0] ++ x)) (g.length + (k + 1) + x.length) false } ∧
    (x ≠ [] → exec (.slipCollect none (g ++ List.replicate (k + 1) 0xC0 ++ x ++ [0xC0] ++ rest)) s = .next { s with
      allocDraws := s.allocDraws.drop x.length
      answer := .collected (some ([0xC0] ++ x ++ [0xC0])) (g.length + (k + 1) + x.length + 1) true }) ∧
    exec (.slipCollect (some [0xC0]) (List.replicate k 0xC0 ++ x)) s = .next { s with
      allocDraws := s.allocDraws.drop x.length
      answer := .collected (some ([0xC0] ++ x)) (k + x.length) false } ∧
    (x ≠ [] → exec (.slipCollect (some [0xC0]) (List.replicate k 0xC0 ++ x ++ [0xC0] ++ rest)) s = .next { s with
      allocDraws := s.allocDraws.drop x.length
      answer := .collected (some ([0xC0] ++ x ++ [0xC0])) (k + x.length + 1) true }) ∧
    (f ≠ [] → exec (.slipCollect (some ([0xC0] ++ f)) x) s = .next { s with
      allocDraws := s.allocDraws.drop x.length
      answer := .collected (some ([0xC0] ++ f ++ x)) x.length false }) ∧
    (f ≠ [] → exec (.slipCollect (some ([0xC0] ++ f)) (x ++ [0xC0] ++ rest)) s = .next { s with
      allocDraws := s.allocDraws.drop x.length
      answer := .collected (some ([0xC0] ++ f ++ x ++ [0xC0])) (x.length + 1) true })

/-- SLIP.RESYNC (R204): one ALLOC report, then the scan of the rest with no frame open and the bytes already consumed
added; and SLIP.COLLECT goes to it at the byte whose allocation fails. A list of allocation draws is the model's
form (notes/assumptions/6.md); that it runs only in a live block is DEDUCED (13.md). -/
def Obligations.SlipResyncDropsTheFrame : Prop :=
  (∀ (incoming : Bytes) (i : Nat) (s : State), s.alive = true → s.halted = false → i ≤ incoming.length →
    ∃ t buf consumed completed,
    exec (.slipCollect none (incoming.drop i)) { s with faults := s.faults ++ [.alloc] } = .next t ∧
    t.answer = .collected buf consumed completed ∧
    exec (.slipResync incoming i) s = .next { t with answer := .collected buf (consumed + i) completed }) ∧
  (∀ (f x rest : Bytes) (b : Byte) (draws : List Bool) (s : State), s.alive = true → s.halted = false →
    (0xC0 : Byte) ∉ x → b ≠ 0xC0 →
    s.allocDraws = List.replicate x.length true ++ false :: draws → ∃ t,
      exec (.slipResync (x ++ b :: rest) (x.length + 1)) { s with allocDraws := draws } = .next t ∧
      exec (.slipCollect (some ([0xC0] ++ f)) (x ++ b :: rest)) s = .next t)

/-- The receipt of one SLIP symbol (R131, R144, R201, R202, R396). While allocations succeed, the bytes of a data symbol
go to the collector undecoded where a frame is open and are dropped where none is; the answer is the data of R131. A
sentinel opens a frame, is a continuation, or closes the open frame, which then goes to RX.FRAME; an escape byte
before the closing sentinel is data. What a row of the table does on receipt is the model's reading
(notes/assumptions/18.md). The four second escape bytes are PRESUMED (21.md). -/
def Obligations.SlipSymbolsReachTheCollector : Prop :=
  (∀ (s : State) (x b : Byte), s.inService → s.allocsSucceed → x ∉ ([0xC0, 0xDC, 0xDD, 0xDE, 0xDF] : Bytes) →
    b ∉ ([0xC0, 0xDB] : Bytes) →
    ∀ row ∈ ([(.slipEscEnd, [0xDB, 0xDC], [0xC0]), (.slipEscEsc, [0xDB, 0xDD], [0xDB]),
        (.slipEscXon, [0xDB, 0xDE], [0x11]), (.slipEscXoff, [0xDB, 0xDF], [0x13]),
        (.slipBadEsc (some x), [0xDB, x], [0xDB, x]), (.slipBadEsc none, [0xDB], [0xDB]),
        (.slipLit b, [b], [b])] : List (Instr × Bytes × Bytes)),
      (s.collector = none → exec row.1 s = .next { s with answer := .symbol row.2.2 }) ∧
      (∀ f, s.collector = some ([0xC0] ++ f) → exec row.1 s = .next { s with
        collector := some ([0xC0] ++ f ++ row.2.1)
        allocDraws := s.allocDraws.drop row.2.1.length
        answer := .symbol row.2.2 })) ∧
  (∀ (s : State), s.inService →
    (s.collector = none → exec .slipEnd s = .next { s with collector := some [0xC0], answer := .symbol [] }) ∧
    (s.collector = some [0xC0] → exec .slipEnd s = .next { s with answer := .symbol [] }) ∧
    (∀ body out, body ≠ [] → s.collector = some ([0xC0] ++ body) → SlipReads body out → ∃ t,
      exec (.rxFrame out) { s with collector := none } = .next t ∧
      exec .slipEnd s = .next { t with answer := .symbol [] }) ∧
    (s.collector = none →
      exec (.slipBadEsc (some 0xC0)) s = .next { s with collector := some [0xC0], answer := .symbol [0xDB] }) ∧
    (∀ body out, s.allocsSucceed → s.collector = some ([0xC0] ++ body) → SlipReads (body ++ [0xDB]) out → ∃ t,
      exec (.rxFrame out) { s with collector := none, allocDraws := s.allocDraws.drop 1 } = .next t ∧
      exec (.slipBadEsc (some 0xC0)) s = .next { t with answer := .symbol [0xDB] }))

/-! ### The CRC generator and the BCSP codec (42_bcsp_crc.md) -/

/-- CRC.UPDATE (R230): eight shifts, bit 0 of the byte first, with the reflected polynomial. CRC16 (R231): the updates
from 0xFFFF, reversed as a whole; equivalently the most-significant-bit-first CRC with polynomial 0x1021 over the
bits in the order of the serial line. The polynomial's value and the initial register are PRESUMED
(notes/assumptions/21.md); the second form is the spec's own derivation (R231); that they run only in a live block is
DEDUCED (13.md). -/
def Obligations.CrcIsTheMsbFirstCrcOfTheLine : Prop :=
  (∀ (reg : BitVec 16) (d : Byte) (s : State), s.alive = true → s.halted = false →
    exec (.crcUpdate reg d) s = .next { s with answer := .word ((List.range 8).foldl
      (fun r i => if (r.getLsbD 0 ^^ d.getLsbD i) = true then (r >>> 1) ^^^ 0x8408 else r >>> 1) reg) }) ∧
  (∀ (bs : Bytes) (s : State), s.alive = true → s.halted = false →
    exec (.crc16 bs) s = .next { s with answer := .word (bs.foldl crcUpdate 0xFFFF).reverse } ∧
    exec (.crc16 bs) s = .next { s with answer := .word (msbCrc (bs.flatMap lineBits)) })

/-- HDR.CHECKSUM (R232, R135): the complement of the sum modulo 256; a header is valid exactly when its four bytes sum
to 0xFF modulo 256, and a frame whose header is not valid is discarded: BCSP.UNPACK says ChecksumError, and RX.FRAME
reports it and does nothing else. Both functions run in a live block (R447). -/
def Obligations.HeaderChecksumComplementsTheSum : Prop :=
  ∀ (b0 b1 b2 : Byte) (s : State), s.alive = true → s.halted = false → ∃ c : Byte,
    exec (.hdrChecksum b0 b1 b2) s = .next { s with answer := .byte c } ∧
    c.toNat = 255 - (b0.toNat + b1.toNat + b2.toNat) % 256 ∧
    (∀ b3 : Byte, b3 = c ↔ (b0.toNat + b1.toNat + b2.toNat + b3.toNat) % 256 = 0xFF) ∧
    (∀ (b3 : Byte) (rest : Bytes), b3 ≠ c →
      exec (.bcspUnpack ([b0, b1, b2, b3] ++ rest)) s = .next { s with answer := .unpacked .checksumError } ∧
      (NodeKind.bcsp ∈ s.params.chain → exec (.rxFrame ([b0, b1, b2, b3] ++ rest)) s = .next { s with
        faults := s.faults ++ [.checksum .header], answer := .done }))

/-- BCSP.PACK (R233): the header word of R134 with its checksum, the payload, and the CRC most significant byte first;
the sequence number is assigned and incremented only for a reliable frame. A longer payload is not packed. The bit
places and the order of the CRC bytes are PRESUMED (notes/assumptions/21.md); the answer to a call that is not
enabled is the model's form (9.md), and so is that BCSP.PACK asked for alone draws no allocation (43.md). -/
def Obligations.PackBuildsTheFrame : Prop :=
  ∀ (payload : Bytes) (type : BitVec 4) (reliable : Bool) (ack : Count3) (useCrc : Bool) (s : State), s.inService →
    (payload.length ≤ 4095 → ∃ (c : Byte) (word : BitVec 32) (f : Bytes),
      word = headerWord c (BitVec.ofNat 12 payload.length) type reliable useCrc ack (if reliable then s.seq else 0) ∧
      c = ~~~(word.extractLsb' 0 8 + word.extractLsb' 8 8 + word.extractLsb' 16 8) ∧
      f = headerBytes word ++ payload ∧
      exec (.bcspPack payload type reliable ack useCrc) s = .next { s with
        seq := if reliable then s.seq + 1 else s.seq
        answer := .bytes (if useCrc then f ++ [(crc16 f).extractLsb' 8 8, (crc16 f).extractLsb' 0 8] else f) }) ∧
    (4095 < payload.length →
      exec (.bcspPack payload type reliable ack useCrc) s = .next { s with answer := .notEnabled })

/-- BCSP.UNPACK (R234): every sequence shorter than four bytes is truncated, every other is a header word and a body;
then the checksum, the length and the CRC are checked, in this order. The bit places and the order of the CRC bytes
are PRESUMED (notes/assumptions/21.md); that it runs only in a live block is DEDUCED (13.md). -/
def Obligations.UnpackChecksInOrder : Prop :=
  (∀ (f : Bytes) (s : State), s.alive = true → s.halted = false → f.length < 4 →
    exec (.bcspUnpack f) s = .next { s with answer := .unpacked .truncated }) ∧
  (∀ f : Bytes, 4 ≤ f.length → ∃ c length type reliable crc ack seq body,
    f = headerBytes (headerWord c length type reliable crc ack seq) ++ body) ∧
  (∀ (c : Byte) (length : BitVec 12) (type : BitVec 4) (reliable crc : Bool) (ack seq : Count3) (body : Bytes)
      (word : BitVec 32) (good : Byte) (n : Nat) (s : State), s.alive = true → s.halted = false →
    word = headerWord c length type reliable crc ack seq →
    good = ~~~(word.extractLsb' 0 8 + word.extractLsb' 8 8 + word.extractLsb' 16 8) →
    n = length.toNat + (if crc then 2 else 0) → ∃ r,
      exec (.bcspUnpack (headerBytes word ++ body)) s = .next { s with answer := .unpacked r } ∧
      r = (if c ≠ good then .checksumError
        else if body.length < n then .lengthShort
        else if n < body.length then .lengthOverrun
        else if crc = true ∧ body.drop length.toNat ≠
            [(crc16 (headerBytes word ++ body.take length.toNat)).extractLsb' 8 8,
              (crc16 (headerBytes word ++ body.take length.toNat)).extractLsb' 0 8] then .crcError
        else .ok ⟨seq, ack, crc, reliable, type, length⟩ (body.take length.toNat)))

/-- The first property of R236: unpacking a packed frame gives back what was packed. The spec marks this as its own
derivation (R236); that unpacking runs only in a live block is DEDUCED (notes/assumptions/13.md), and that packing draws
no allocation is the model's choice (43.md). -/
def Obligations.UnpackOfPackGivesTheFrameBack : Prop :=
  ∀ (payload : Bytes) (type : BitVec 4) (reliable : Bool) (ack : Count3) (useCrc : Bool) (s : State), s.inService →
    payload.length ≤ 4095 → ∃ f,
      exec (.bcspPack payload type reliable ack useCrc) s = .next { s with
        seq := if reliable then s.seq + 1 else s.seq
        answer := .bytes f } ∧
      ∀ t : State, t.alive = true → t.halted = false → exec (.bcspUnpack f) t = .next { t with
        answer := .unpacked (.ok
          ⟨if reliable then s.seq else 0, ack, useCrc, reliable, type, BitVec.ofNat 12 payload.length⟩ payload) }

/-- R236: in a packed frame with CRC, one corrupted byte (a single-bit corruption among them) is always detected: a
header byte by the checksum, a payload or CRC byte by the CRC. The spec derives it for one flipped bit (R236); for a
whole byte it is read from R231 and R232 here. That unpacking runs only in a live block is DEDUCED
(notes/assumptions/13.md), and that packing draws no allocation is the model's choice (43.md). -/
def Obligations.OneCorruptedByteIsDetected : Prop :=
  ∀ (payload : Bytes) (type : BitVec 4) (reliable : Bool) (ack : Count3) (s : State), s.inService →
    payload.length ≤ 4095 → ∃ f,
      exec (.bcspPack payload type reliable ack true) s = .next { s with
        seq := if reliable then s.seq + 1 else s.seq
        answer := .bytes f } ∧
      ∀ (i : Nat) (b : Byte) (t : State), t.alive = true → t.halted = false → i < f.length → f[i]? ≠ some b → ∃ r,
        exec (.bcspUnpack (f.set i b)) t = .next { t with answer := .unpacked r } ∧
        (i < 4 → r = .checksumError) ∧ (4 ≤ i → r = .crcError)

/-! ### The sequencer: entry and transmission (43_arq.md) -/

/-- ARQ.CLASSIFY (R270): the table of type codes and reliability. The type codes are PRESUMED (notes/assumptions/21.md). -/
def Obligations.ClassifyFollowsTheTable : Prop :=
  ∀ s : State, s.inService →
    ∀ row ∈ ([(.cmd, 1, true), (.acl, 2, true), (.evt, 4, false), (.iso, 5, true), (.vnd, 14, s.params.vendorReliable),
        (.ack, 0, false), (.link, 15, false)] : List (Tag × BitVec 4 × Bool)),
      exec (.arqClassify row.1) s = .next { s with answer := .classified row.2.1 row.2.2 }

/-- UP.SEND (R271): a private tag or an over-long payload is refused without effect; a failed allocation is an ALLOC
report and the unit is dropped; else the unit enters the queue of its class and the worker is scheduled. The forms
of the refusal and of the answers are the model's (notes/assumptions/10.md, 36.md). -/
def Obligations.UpSendQueuesTheUnit : Prop :=
  ∀ (tag : Tag) (p : Bytes) (s : State), s.inService →
    ((tag = .ack ∨ tag = .link ∨ 4095 < p.length) →
      exec (.upSend tag p) s = .next { s with answer := .refused }) ∧
    (tag ≠ .ack → tag ≠ .link → p.length ≤ 4095 →
      (∀ draws, s.allocDraws = false :: draws →
        exec (.upSend tag p) s = .next { s with
          faults := s.faults ++ [.alloc], allocDraws := draws, answer := .allocFailed }) ∧
      (s.allocDraws.head? ≠ some false →
        (tag = .cmd ∨ tag = .acl ∨ tag = .iso ∨ (tag = .vnd ∧ s.params.vendorReliable = true) →
          exec (.upSend tag p) s = .next { s with
            relQ := s.relQ ++ [⟨tag, p⟩], workerScheduled := true, allocDraws := s.allocDraws.tail, answer := .done }) ∧
        (tag = .evt ∨ (tag = .vnd ∧ s.params.vendorReliable = false) →
          exec (.upSend tag p) s = .next { s with
            unrelQ := s.unrelQ ++ [⟨tag, p⟩], workerScheduled := true, allocDraws := s.allocDraws.tail
            answer := .done })))

/-- The conditions of the worker (R272, 45_power_fsm.md R367, R368): `gate_open`, `is_power`, `work`, and when TX.STEP
and TX.WAKE are enabled. The bytes of the power messages are PRESUMED (notes/assumptions/21.md); that the chain must
have a Bcsp node is DEDUCED (14.md). -/
def Obligations.WorkerConditionsAreTheRules : Prop :=
  ∀ (s : State) (u : QUnit),
    (s.gateOpen = true ↔ s.gateIsOpen) ∧
    (isPower u = true ↔ u.power) ∧
    (s.relReady = true ↔ s.reliableReady) ∧
    (s.work = true ↔ s.hasWork) ∧
    (s.txStepEnabled = true ↔ s.inService ∧ s.workerScheduled = true ∧
      (¬ s.hasWork ∨ (∃ v q, s.unrelQ = v :: q ∧ (v.power ∨ s.gateIsOpen)) ∨
        (s.gateIsOpen ∧ (s.reliableReady ∨ s.ackRequired = true)))) ∧
    (s.txWakeEnabled = true ↔ s.inService ∧ s.workerScheduled = true ∧ s.peerState = .lowPower ∧
      s.wakeupPending = false ∧
      ((∃ v q, s.unrelQ = v :: q ∧ ¬ v.power) ∨ s.reliableReady ∨ s.ackRequired = true))

/-- TX.FRAME (R273): the unit is packed now, with the current counters and configuration, escaped and written; every
frame discharges an owed acknowledgement. The acknowledgement-only frame (R274) has four header bytes: `ack << 3`,
two zeros and the checksum. Under the premises R105 and R397 ask a claim to name. The codes and bit places are
PRESUMED (notes/assumptions/21.md); that the two helpers, asked for alone, need no condition of TX.STEP is the model's
choice (44.md). -/
def Obligations.TxFramePacksAndSends : Prop :=
  ∀ s : State, s.inService → s.allocsSucceed → s.perfectSink → sendsToSink s.params.chain .bcsp = true →
    (∀ (u : QUnit) (reliable : Bool), u.payload.length ≤ 4095 → ∃ type frame,
      type = (classify s.params.vendorReliable u.tag).1 ∧
      frame = bcspFrame (if reliable then s.seq else 0) s.ack (s.useCrc && type != 0 && type != 15) reliable type
        u.payload ∧
      s.wireBytes u reliable = slipEncode frame s.swFlow ∧
      exec (.txFrame u reliable) s = .next { s with
        phyTx := s.phyTx ++ slipEncode frame s.swFlow
        seq := if reliable then s.seq + 1 else s.seq
        ackRequired := false
        allocDraws := s.allocDraws.tail
        answer := .done }) ∧
    exec .txAckFrame s = .next { s with
      phyTx := s.phyTx ++
        slipEncode [s.ack.setWidth 8 <<< 3, 0x00, 0x00, ~~~(s.ack.setWidth 8 <<< 3)] s.swFlow
      ackRequired := false
      allocDraws := s.allocDraws.tail
      answer := .done }

/-- TX.STEP (R272) when allocations succeed and the sink takes every write whole: with no work the worker ends itself;
else one unit of `unrel_q` where it may go, then one of `rel_q` where there is credit and the gate is open, and an
acknowledgement-only frame where one is owed and nothing else went out. Where it is not enabled (the worker not
scheduled, or work that the closed gate holds back whole) it takes no step. The lists of draws and the answer of an
operation that is not enabled are the model's form (notes/assumptions/6.md, 9.md). -/
def Obligations.TxStepSendsOneOfEach : Prop :=
  (∀ s : State, s.inService →
    (s.workerScheduled = false → exec .txStep s = .next { s with answer := .notEnabled }) ∧
    (s.hasWork → ¬ s.gateIsOpen → (∀ u q, s.unrelQ = u :: q → ¬ u.power) →
      exec .txStep s = .next { s with answer := .notEnabled })) ∧
  (∀ s : State, s.txStepEnabled = false → exec .txStep s = .next { s with answer := .notEnabled }) ∧
  ∀ (s : State) (un re : Option QUnit) (ackOnly : Bool), s.txStepEnabled = true →
    (s.work = false → exec .txStep s = .next { s with workerScheduled := false, answer := .done }) ∧
    (s.work = true → s.allocsSucceed → s.perfectSink → sendsToSink s.params.chain .bcsp = true →
      un = (if s.unrelSendable then s.unrelQ.head? else none) →
      re = (if s.relReady && s.gateOpen then s.relQ.head? else none) →
      ackOnly = (un.isNone && re.isNone) →
      exec .txStep s = .next { s with
        phyTx := s.phyTx ++ ((un.map (s.wireBytes · false)).getD [] ++ (re.map (s.wireBytes · true)).getD []
          ++ if ackOnly then s.wireBytes ⟨.ack, []⟩ false else [])
        unrelQ := s.unrelQ.drop un.toList.length
        relQ := s.relQ.drop re.toList.length
        sentQ := s.sentQ ++ re.toList
        credit := s.credit - re.toList.length
        seq := if re.isSome then s.seq + 1 else s.seq
        rtxTimer := if re.isSome then .armed else s.rtxTimer
        ackRequired := false
        allocDraws := s.allocDraws.drop (un.toList.length + re.toList.length + ackOnly.toNat)
        answer := .done })

/-- Sends that do not come off. A failed allocation (60_exceptions.md R443): an ALLOC report, and the unit is back where
it was with every register as it was; an acknowledgement-only frame is simply not sent. A WRITE fault inside TX.STEP
(R446, R447): the step ends there, with the unit outside every queue and, for a reliable unit, `seq` already
incremented. That an abandoned iteration goes on, and what a helper answers, is the model's
(notes/assumptions/15.md, 16.md), and so is that the helpers, asked for alone, need no condition of their callers
(44.md). -/
def Obligations.FailedSendsKeepOrLoseTheUnit : Prop :=
  (∀ (s : State) (draws : List Bool), s.inService → s.allocDraws = false :: draws →
    (∀ u reliable, u.payload.length ≤ 4095 → exec (.txFrame u reliable) s = .next { s with
      faults := s.faults ++ [.alloc], allocDraws := draws, answer := .allocFailed }) ∧
    exec .txAckFrame s = .next { s with
      faults := s.faults ++ [.alloc], allocDraws := draws, answer := .allocFailed } ∧
    exec .pwrSendWakeup s = .next { s with
      faults := s.faults ++ [.alloc], allocDraws := draws, answer := .allocFailed } ∧
    (s.workerScheduled = true →
      ((s.unrelSendable = true ∧ s.relReady = false ∧ s.ackRequired = false) ∨
        (s.unrelQ = [] ∧ s.relReady = true ∧ s.gateOpen = true ∧ s.ackRequired = false) ∨
        (s.unrelQ = [] ∧ s.relReady = false ∧ s.gateOpen = true ∧ s.ackRequired = true)) →
      exec .txStep s = .next { s with faults := s.faults ++ [.alloc], allocDraws := draws, answer := .done })) ∧
  (∀ (s : State) (u : QUnit) (q : List QUnit) (post : List SinkAnswer), s.txStepEnabled = true → s.allocsSucceed →
    sendsToSink s.params.chain .bcsp = true →
    s.sinkDraws = List.replicate (s.params.writeRetryLimit + 1) .hardError ++ post →
    (s.unrelQ = [] → s.relQ = u :: q → s.relReady = true → s.gateOpen = true →
      exec .txStep s = .next { s with
        relQ := q
        seq := s.seq + 1
        allocDraws := s.allocDraws.tail
        sinkDraws := post
        faults := s.faults ++ [.write 0]
        halted := true
        answer := .faulted }) ∧
    (s.unrelQ = u :: q → s.unrelSendable = true →
      exec .txStep s = .next { s with
        unrelQ := q
        allocDraws := s.allocDraws.tail
        sinkDraws := post
        faults := s.faults ++ [.write 0]
        halted := true
        answer := .faulted }))

/-- RUN (30_encoding.md R147) is TX.STEP again and again while it is enabled, the gate of R367 is open and TX.WAKE is not
needed; and, unless the sink stalls, it ends: it comes to a state in which TX.STEP is not enabled, the gate is closed or
TX.WAKE is needed. That a closed gate stops it also before a power message is read from R147's words
(notes/assumptions/17.md). -/
def Obligations.RunRepeatsTxStepAndEnds : Prop :=
  ∀ s : State, s.inService →
    (s.txStepEnabled = false ∨ ¬ s.gateIsOpen ∨ s.txWakeEnabled = true →
      exec .run s = .next { s with answer := .done }) ∧
    (∀ t, s.txStepEnabled = true → s.gateIsOpen → s.txWakeEnabled = false → exec .txStep s = .next t →
      (t.halted = true → exec .run s = .next t) ∧ (t.halted = false → exec .run s = exec .run t)) ∧
    (.stalled ∉ s.sinkDraws → ∃ t, exec .run s = .next t ∧
      (t.txStepEnabled = false ∨ ¬ t.gateIsOpen ∨ t.txWakeEnabled = true))

/-! ### The sequencer: reception and retransmission (43_arq.md) -/

/-- RX.FRAME (R277, 60_exceptions.md R442, R445, R450). A frame that fails the integrity checks is dropped whole with
the report of its cause, a truncated one silently. A good frame on an established link: the sequence check of a
reliable frame, where a mismatch ends it with the fatal fault, then the acknowledgement, then the delivery; before
that the counters are ignored and only delivery runs. -/
def Obligations.RxFrameChecksAcknowledgesDelivers : Prop :=
  ∀ (f : Bytes) (s : State), s.inService →
    (bcspUnpack f = .truncated → exec (.rxFrame f) s = .next { s with answer := .done }) ∧
    (bcspUnpack f = .checksumError → exec (.rxFrame f) s = .next { s with
      faults := s.faults ++ [.checksum .header], answer := .done }) ∧
    (bcspUnpack f = .lengthShort → exec (.rxFrame f) s = .next { s with
      faults := s.faults ++ [.checksum .lengthShort], answer := .done }) ∧
    (bcspUnpack f = .lengthOverrun → exec (.rxFrame f) s = .next { s with
      faults := s.faults ++ [.checksum .lengthOverrun], answer := .done }) ∧
    (bcspUnpack f = .crcError → exec (.rxFrame f) s = .next { s with
      faults := s.faults ++ [.crc], answer := .done }) ∧
    (∀ h p, bcspUnpack f = .ok h p →
      (s.established → h.reliable = true → h.seq ≠ s.ack → exec (.rxFrame f) s = .next { s with
        faults := s.faults ++ [.outOfSequence h.seq s.ack], halted := true, answer := .done }) ∧
      (s.established → h.reliable = true → h.seq = s.ack → ∃ t1 t2 t3,
        exec (.arqRxSeq h.seq) s = .next t1 ∧ exec (.arqRxAck h.ack) t1 = .next t2 ∧
        exec (.arqDeliver h p true) t2 = .next t3 ∧ exec (.rxFrame f) s = .next t3) ∧
      (s.established → h.reliable = false → ∃ t1 t2,
        exec (.arqRxAck h.ack) s = .next t1 ∧ exec (.arqDeliver h p true) t1 = .next t2 ∧
        exec (.rxFrame f) s = .next t2) ∧
      (¬ s.established → ∃ t, exec (.arqDeliver h p false) s = .next t ∧ exec (.rxFrame f) s = .next t))

/-- ARQ.RX_SEQ (R278): the expected number advances `ack`, owes an acknowledgement and schedules the worker; any other
is the fatal OUT_OF_SEQUENCE and changes nothing else. -/
def Obligations.RxSeqAcceptsOnlyTheExpectedNumber : Prop :=
  ∀ (n : Count3) (s : State), s.inService →
    (n = s.ack → exec (.arqRxSeq n) s = .next { s with
      ack := s.ack + 1, ackRequired := true, workerScheduled := true, answer := .sequence true }) ∧
    (n ≠ s.ack → exec (.arqRxSeq n) s = .next { s with
      faults := s.faults ++ [.outOfSequence n s.ack], halted := true, answer := .sequence false })

/-- ARQ.RX_ACK (R279): everything outstanding acknowledged, a part of it, nothing, or a frame never sent. The credit
given back in the first case is the spec's own addition (R279). -/
def Obligations.RxAckRemovesAcknowledgedUnits : Prop :=
  ∀ (a : Count3) (n : Nat) (s : State), s.inService → n = (a.toNat + 8 - s.rack.toNat) % 8 →
    (a = s.seq → s.sentQ ≠ [] → exec (.arqRxAck a) s = .next { s with
      sentQ := [], rack := a, credit := s.credit + s.sentQ.length, rtxTimer := .idle, retryCount := 0
      workerScheduled := true, answer := .done }) ∧
    (a = s.seq → s.sentQ = [] → exec (.arqRxAck a) s = .next { s with rack := a, rtxTimer := .idle, answer := .done }) ∧
    (a ≠ s.seq → 0 < n → n ≤ s.sentQ.length → exec (.arqRxAck a) s = .next { s with
      sentQ := s.sentQ.drop n, rack := a, credit := s.credit + n, retryCount := 0, workerScheduled := true
      answer := .done }) ∧
    (a ≠ s.seq → n = 0 → exec (.arqRxAck a) s = .next { s with answer := .done }) ∧
    (a ≠ s.seq → s.sentQ.length < n → exec (.arqRxAck a) s = .next { s with answer := .done })

/-- Idempotence of acknowledgement (R279, R287): the same value a second time changes nothing. The spec marks it as its
own derivation (R287). -/
def Obligations.AcknowledgementIsIdempotent : Prop :=
  ∀ (a : Count3) (s : State), s.inService → ∃ t, exec (.arqRxAck a) s = .next t ∧ exec (.arqRxAck a) t = .next t

/-- ARQ.DELIVER (R280): link control is dispatched; data goes up without header when the sequencer is on and is dropped
before that; acknowledgement-only and reserved types deliver nothing. The type codes are PRESUMED
(notes/assumptions/21.md). -/
def Obligations.DeliverFollowsTheType : Prop :=
  ∀ (h : Header) (p : Bytes) (arqOn : Bool) (s : State), s.inService →
    (h.type = 15 → ∃ t, exec (.linkDispatch (lcDecode p)) s = .next t ∧ exec (.arqDeliver h p arqOn) s = .next t) ∧
    (h.type ∈ ([0, 3, 6, 7, 8, 9, 10, 11, 12, 13] : List (BitVec 4)) →
      exec (.arqDeliver h p arqOn) s = .next { s with answer := .done }) ∧
    (∀ row ∈ ([(1, .cmd), (2, .acl), (4, .evt), (5, .iso), (14, .vnd)] : List (BitVec 4 × Tag)), h.type = row.1 →
      (arqOn = true → deliversToConsumer s.params.chain .bcsp = true → exec (.arqDeliver h p arqOn) s = .next { s with
        upRx := s.upRx ++ [⟨row.2, p⟩], answer := .done }) ∧
      (arqOn = false → exec (.arqDeliver h p arqOn) s = .next { s with answer := .done }))

/-- ARQ.RELOAD (R284), go-back-N: the unacknowledged units are back at the head of `rel_q` in order, `seq` is rolled
back by their number, and credit is full again; under the sliding window invariant `seq` is then `rack` (R36).
ARQ.TIMEOUT (R283): a stale expiry does nothing, one at the limit is the fatal RETRY_LIMIT, any other counts and
reloads. -/
def Obligations.TimeoutGoesBackN : Prop :=
  ∀ s : State, s.inService →
    exec .arqReload s = .next { s with
      relQ := s.sentQ ++ s.relQ
      sentQ := []
      seq := s.seq - BitVec.ofNat 3 s.sentQ.length
      credit := s.window
      rtxTimer := .idle
      workerScheduled := true
      answer := .done } ∧
    (WindowInv s → s.seq - BitVec.ofNat 3 s.sentQ.length = s.rack) ∧
    (s.sentQ = [] → exec .arqTimeout s = .next { s with answer := .done }) ∧
    (s.sentQ ≠ [] → s.params.retryLimit ≤ s.retryCount → exec .arqTimeout s = .next { s with
      faults := s.faults ++ [.retryLimit s.retryCount], halted := true, answer := .done }) ∧
    (s.sentQ ≠ [] → s.retryCount < s.params.retryLimit → exec .arqTimeout s = .next { s with
      retryCount := s.retryCount + 1
      relQ := s.sentQ ++ s.relQ
      sentQ := []
      seq := s.seq - BitVec.ofNat 3 s.sentQ.length
      credit := s.window
      rtxTimer := .idle
      workerScheduled := true
      answer := .done })

/-- RTX.FIRE (R281), WAKE.FIRE (45_power_fsm.md R365) and GUARD.ELAPSE (R369): each clears its condition; the timers
schedule their work and do not run it. RTX.WORK (R282) serves the sequencing state; RTX.TIMEOUT (30_encoding.md
R147) is the fire and its work. Without its condition none takes a step. The answer of an operation that is not
enabled is the model's form (notes/assumptions/9.md), and so is turning RTX.TIMEOUT away whole when its fire is not
enabled (39.md); that GUARD.ELAPSE runs also in a quiescent state is the model's choice (42.md). -/
def Obligations.TimersFireAndTheirWorkRuns : Prop :=
  ∀ s : State, s.inService →
    (s.rtxTimer = .armed → exec .rtxFire s = .next { s with rtxTimer := .idle, rtxWork := true, answer := .done }) ∧
    (s.wakeTimer = .armed → exec .wakeFire s = .next { s with wakeTimer := .idle, wakeWork := true, answer := .done }) ∧
    (s.guardWait = true → exec .guardElapse s = .next { s with
      guardWait := false, workerScheduled := true, answer := .done }) ∧
    (s.rtxTimer = .idle → exec .rtxFire s = .next { s with answer := .notEnabled }) ∧
    (s.wakeTimer = .idle → exec .wakeFire s = .next { s with answer := .notEnabled }) ∧
    (s.guardWait = false → exec .guardElapse s = .next { s with answer := .notEnabled }) ∧
    (s.rtxWork = true →
      (s.localState = .uninitialized ∨ s.localState = .initialized → ∃ t,
        exec .linkTimeout { s with rtxWork := false } = .next t ∧ exec .rtxWork s = .next t) ∧
      (s.localState = .waitPeerActive → exec .rtxWork s = .next { s with rtxWork := false, answer := .done }) ∧
      (s.established → ∃ t,
        exec .arqTimeout { s with rtxWork := false } = .next t ∧ exec .rtxWork s = .next t)) ∧
    (s.rtxWork = false → exec .rtxWork s = .next { s with answer := .notEnabled }) ∧
    (s.rtxTimer = .armed → ∃ t1 t2,
      exec .rtxFire s = .next t1 ∧ exec .rtxWork t1 = .next t2 ∧ exec .rtxTimeout s = .next t2) ∧
    (s.rtxTimer = .idle → exec .rtxTimeout s = .next { s with answer := .notEnabled })

/-! ### The link handshake (44_link_fsm.md) -/

/-- LINK.TIMEOUT (R321), LINK.RX_SYNC (R322) and LINK.RX_SYNC_RESP (R323), in every state. CONF carries the proposal
(10_state.md R39): a reserved 0, `V0`, `C0`, `F0` and `W0`. The magic bytes and the bit places are PRESUMED
(notes/assumptions/21.md); that LINK.TIMEOUT alone does nothing on an established link is the model's choice (41.md). -/
def Obligations.HandshakeOpensWithSync : Prop :=
  ∀ (s : State) (proposal : Byte), s.inService →
    proposal = 0#1 ++ s.params.v0 ++ BitVec.ofBool s.params.c0 ++ BitVec.ofBool s.params.f0 ++
      BitVec.ofNat 3 s.params.w0 →
    (s.localState = .uninitialized → exec .linkTimeout s = .next { s with
      unrelQ := s.unrelQ ++ [⟨.link, [0x01, 0x7E]⟩], workerScheduled := true, rtxTimer := .armed, answer := .done }) ∧
    (s.localState = .initialized → exec .linkTimeout s = .next { s with
      unrelQ := s.unrelQ ++ [⟨.link, [0x03, 0xFC, proposal]⟩], workerScheduled := true, rtxTimer := .armed
      answer := .done }) ∧
    (s.localState = .waitPeerActive ∨ s.established → exec .linkTimeout s = .next { s with answer := .done }) ∧
    (s.localState = .uninitialized ∨ s.localState = .initialized → exec .linkRxSync s = .next { s with
      unrelQ := s.unrelQ ++ [⟨.link, [0x02, 0x7D]⟩], workerScheduled := true, answer := .done }) ∧
    (s.localState = .waitPeerActive → exec .linkRxSync s = .next { s with answer := .done }) ∧
    (s.established → exec .linkRxSync s = .next { s with
      faults := s.faults ++ [.protocolSyncWhileActive], halted := true, answer := .done }) ∧
    (s.localState = .uninitialized → exec .linkRxSyncResp s = .next { s with
      localState := .initialized, unrelQ := s.unrelQ ++ [⟨.link, [0x03, 0xFC, proposal]⟩]
      workerScheduled := true, rtxTimer := .armed, answer := .done }) ∧
    (s.localState ≠ .uninitialized → exec .linkRxSyncResp s = .next { s with answer := .done })

/-- LINK.RX_CONF (R324), in every state: the answer carries what NEGOTIATE chooses, with the reserved bit 7 sent as 0
(30_encoding.md R140); Initialized assumes the peer Active; WaitPeerActive also enters Active; an established link keeps
its counters. NEGOTIATE (R330) answers what the parameter names for the received field and the proposal, and the echo
where it names nothing. The magic bytes and the bit places are PRESUMED (notes/assumptions/21.md); the form of the
parameter is the model's (31.md). -/
def Obligations.ConfIsAnsweredByState : Prop :=
  ∀ (cfg field : Option Byte) (s : State) (reply : QUnit) (proposal : Byte), s.inService →
    proposal = 0#1 ++ s.params.v0 ++ BitVec.ofBool s.params.c0 ++ BitVec.ofBool s.params.f0 ++
      BitVec.ofNat 3 s.params.w0 →
    (field = cfg ∧ (∀ a, (cfg, proposal, a) ∉ s.params.negotiation)) ∨
      (∃ pre post, s.params.negotiation = pre ++ (cfg, proposal, field) :: post ∧
        ∀ a, (cfg, proposal, a) ∉ pre) →
    reply = ⟨.link, [0x04, 0x7B] ++ (field.map (· &&& 0x7F)).toList⟩ →
    (s.localState = .uninitialized → exec (.linkRxConf cfg) s = .next { s with answer := .done }) ∧
    (s.localState = .initialized → exec (.linkRxConf cfg) s = .next { s with
      unrelQ := s.unrelQ ++ [reply], workerScheduled := true, peerState := .active, answer := .done }) ∧
    (s.localState = .waitPeerActive → ∃ t,
      exec .linkEnterActive { s with
        unrelQ := s.unrelQ ++ [reply], workerScheduled := true, peerState := .active } = .next t ∧
      exec (.linkRxConf cfg) s = .next t) ∧
    (s.established → exec (.linkRxConf cfg) s = .next { s with
      unrelQ := s.unrelQ ++ [reply], workerScheduled := true, answer := .done }) ∧
    exec (.negotiate cfg) s = .next { s with answer := .config field }

/-- LINK.RX_CONF_RESP (R325), in every state: Initialized cancels the timer, captures the byte and goes on to Active or
WaitPeerActive; every other state ignores it. -/
def Obligations.ConfRespCapturesTheConfiguration : Prop :=
  ∀ (cfg : Option Byte) (s : State), s.inService →
    (s.localState = .initialized → s.peerState ≠ .active → exec (.linkRxConfResp cfg) s = .next { s with
      rtxTimer := .idle, cfgPeer := cfg, localState := .waitPeerActive, answer := .done }) ∧
    (s.localState = .initialized → s.peerState = .active → ∃ t,
      exec .linkEnterActive { s with rtxTimer := .idle, cfgPeer := cfg } = .next t ∧
      exec (.linkRxConfResp cfg) s = .next t) ∧
    (s.localState ≠ .initialized → exec (.linkRxConfResp cfg) s = .next { s with answer := .done })

/-- LINK.ENTER_ACTIVE (R326): the counters are reset and the captured byte, or the proposal where there is none, is
committed; the reserved window field 0 commits `W0`. The bit places of the configuration byte are PRESUMED
(notes/assumptions/21.md); that it runs alone in every state is the model's choice (44.md). -/
def Obligations.EnterActiveCommitsTheConfiguration : Prop :=
  ∀ (s : State) (w : Nat) (flow crc : Bool), s.inService →
    ((s.cfgPeer = none ∧ w = s.params.w0 ∧ flow = s.params.f0 ∧ crc = s.params.c0) ∨
      (∃ c : Byte, s.cfgPeer = some c ∧
        w = (if c.extractLsb' 0 3 = 0 then s.params.w0 else (c.extractLsb' 0 3).toNat) ∧
        flow = c.getLsbD 3 ∧ crc = c.getLsbD 4)) →
    exec .linkEnterActive s = .next { s with
      localState := .active
      seq := 0
      ack := 0
      rack := 0
      window := w
      swFlow := flow
      useCrc := crc
      credit := w
      retryCount := 0
      ackRequired := false
      workerScheduled := true
      answer := .done }

/-- LINK.SEND (R327): the message's payload (30_encoding.md R139), followed by the configuration byte where there is
one, its reserved bit 7 sent as 0 (R140), is queued on the unreliable queue. LINK.DISPATCH (R320) runs the rule of each message and skips what is
unknown. The magic bytes are PRESUMED (notes/assumptions/21.md). -/
def Obligations.LinkMessagesAreSentAndDispatched : Prop :=
  ∀ (cfg : Option Byte) (s : State), s.inService →
    (∀ row ∈ ([(.sync, none, [0x01, 0x7E]), (.syncResp, none, [0x02, 0x7D]),
        (.conf, cfg, [0x03, 0xFC] ++ (cfg.map (· &&& 0x7F)).toList),
        (.confResp, cfg, [0x04, 0x7B] ++ (cfg.map (· &&& 0x7F)).toList), (.wakeup, none, [0x05, 0xFA]), (.woken, none, [0x06, 0xF9]),
        (.sleep, none, [0x07, 0x78])] : List (LcName × Option Byte × Bytes)),
      exec (.linkSend row.1 row.2.1) s = .next { s with
        unrelQ := s.unrelQ ++ [⟨.link, row.2.2⟩], workerScheduled := true, answer := .done }) ∧
    (∀ row ∈ ([(.sync, .linkRxSync), (.syncResp, .linkRxSyncResp), (.conf cfg, .linkRxConf cfg),
        (.confResp cfg, .linkRxConfResp cfg), (.wakeup, .pwrRxWakeup), (.woken, .pwrRxWoken),
        (.sleep, .pwrRxSleep)] : List (LcMsg × Instr)), ∃ t,
      exec row.2 s = .next t ∧ exec (.linkDispatch row.1) s = .next t) ∧
    exec (.linkDispatch .unknown) s = .next { s with answer := .done }

/-- R41 and R329: only SYS.INIT and SYS.TEARDOWN move `local_state` back along the handshake, and nothing else assigns
`peer_state` a value but Active and LowPower. R37: the committed configuration is written only by SYS.INIT, by
LINK.ENTER_ACTIVE (the bare configuration byte runs it, notes/assumptions/19.md) and by the handshake step that
enters Active; SYS.TEARDOWN leaves it unspecified. -/
def Obligations.SequencingMovesForwardAndCommitsOnce : Prop :=
  ∀ (i : Instr) (s t : State), i.supervision = false → exec i s = .next t →
    rank s.localState ≤ rank t.localState ∧
    (t.peerState = s.peerState ∨ t.peerState = .active ∨ t.peerState = .lowPower) ∧
    ((t.window = s.window ∧ t.useCrc = s.useCrc ∧ t.swFlow = s.swFlow) ∨
      i = .linkEnterActive ∨ (∃ w f c v, i = .cfg w f c v) ∨ (¬ s.established ∧ t.localState = .active))

/-! ### The power handshake (45_power_fsm.md) -/

/-- PWR.RX_WAKEUP (R361), PWR.RX_WOKEN (R362) and PWR.RX_SLEEP (R363), in every state; and PWR.SLEEP_REQ (R364): enabled
while Active with nothing outstanding and nothing reliable waiting, it queues SLEEP and the block is then asleep.
The magic bytes are PRESUMED (notes/assumptions/21.md); the answer of an operation that is not enabled is the
model's form (9.md). -/
def Obligations.PowerMessagesFollowTheRules : Prop :=
  ∀ s : State, s.inService →
    (¬ s.established → exec .pwrRxWakeup s = .next { s with answer := .done } ∧
      exec .pwrRxWoken s = .next { s with answer := .done } ∧ exec .pwrRxSleep s = .next { s with answer := .done }) ∧
    (s.localState = .lowPower → exec .pwrRxWakeup s = .next { s with
      unrelQ := s.unrelQ ++ [⟨.link, [0x06, 0xF9]⟩], workerScheduled := true, localState := .active
      answer := .done }) ∧
    (s.localState = .active → ∃ t, exec .pwrRxWoken s = .next t ∧ exec .pwrRxWakeup s = .next t) ∧
    (s.established → s.seq = s.rack → exec .pwrRxWoken s = .next { s with
      peerState := .active, wakeTimer := .idle, wakeupPending := false, guardWait := false, workerScheduled := true
      answer := .done }) ∧
    (s.established → s.seq ≠ s.rack → ∃ t,
      exec .arqReload { s with
        peerState := .active, wakeTimer := .idle, wakeupPending := false, guardWait := false } = .next t ∧
      exec .pwrRxWoken s = .next t) ∧
    (s.established → s.seq = s.rack → exec .pwrRxSleep s = .next { s with
      peerState := .lowPower, answer := .done }) ∧
    (s.established → s.seq ≠ s.rack → exec .pwrRxSleep s = .next { s with
      peerState := .lowPower, wakeTimer := .armed, answer := .done }) ∧
    (s.localState = .active → s.sentQ = [] → s.relQ = [] → exec .pwrSleepReq s = .next { s with
      unrelQ := s.unrelQ ++ [⟨.link, [0x07, 0x78]⟩], workerScheduled := true, localState := .lowPower
      answer := .done }) ∧
    (s.localState ≠ .active ∨ s.sentQ ≠ [] ∨ s.relQ ≠ [] → exec .pwrSleepReq s = .next { s with answer := .notEnabled })

/-- PWR.SEND_WAKEUP (R370) and TX.WAKE (R368): a WAKEUP frame goes out, an owed acknowledgement stays owed, the wakeup
is pending, the guard delay runs and the wakeup timer is armed; a second WAKEUP is then not sent. WAKE.WORK (R366)
sends another WAKEUP while the peer is assumed asleep and does nothing else; WAKE.TIMEOUT (30_encoding.md R147) is
the fire and its work. Under the premises R105 and R397 ask a claim to name. The bytes are PRESUMED
(notes/assumptions/21.md); the answer of an operation that is not enabled is the model's form (9.md), and so is turning
WAKE.TIMEOUT away whole when its fire is not enabled (39.md) and running PWR.SEND_WAKEUP alone without its callers'
conditions (44.md). -/
def Obligations.WakeupIsSentOnceAndRetried : Prop :=
  ∀ (s t : State), s.inService → s.allocsSucceed → s.perfectSink → sendsToSink s.params.chain .bcsp = true →
    t = { s with
      phyTx := s.phyTx ++ slipEncode [s.ack.setWidth 8 <<< 3, 0x2F, 0x00, ~~~(s.ack.setWidth 8 <<< 3 + 0x2F), 0x05, 0xFA]
        s.swFlow
      wakeupPending := true
      guardWait := true
      wakeTimer := .armed
      allocDraws := s.allocDraws.tail
      answer := .done } →
    exec .pwrSendWakeup s = .next t ∧
    (s.txWakeEnabled = true → exec .txWake s = .next t) ∧
    (s.txWakeEnabled = false → exec .txWake s = .next { s with answer := .notEnabled }) ∧
    exec .txWake t = .next { t with answer := .notEnabled } ∧
    (s.wakeWork = true → s.established → s.peerState = .lowPower → ∃ t,
      exec .pwrSendWakeup { s with wakeWork := false } = .next t ∧ exec .wakeWork s = .next t) ∧
    (s.wakeWork = true → ¬ (s.established ∧ s.peerState = .lowPower) →
      exec .wakeWork s = .next { s with wakeWork := false, answer := .done }) ∧
    (s.wakeWork = false → exec .wakeWork s = .next { s with answer := .notEnabled }) ∧
    (s.wakeTimer = .armed → ∃ t1 t2,
      exec .wakeFire s = .next t1 ∧ exec .wakeWork t1 = .next t2 ∧ exec .wakeTimeout s = .next t2) ∧
    (s.wakeTimer = .idle → exec .wakeTimeout s = .next { s with answer := .notEnabled })

/-- R367: through a closed gate TX.STEP sends at most the power message at the head of `unrel_q`, whatever the allocator
and the sink answer; nothing reliable moves. The bytes of the power messages are PRESUMED (notes/assumptions/21.md). -/
def Obligations.ClosedGateLetsOnlyPowerMessagesPass : Prop :=
  ∀ (s t : State), ¬ s.gateIsOpen → exec .txStep s = .next t →
    t.relQ = s.relQ ∧ t.sentQ = s.sentQ ∧ t.seq = s.seq ∧ t.credit = s.credit ∧ t.rtxTimer = s.rtxTimer ∧
    (t.phyTx = s.phyTx ∨ ∃ u q n, s.unrelQ = u :: q ∧ u.power ∧
      t.phyTx = s.phyTx ++ (s.wireBytes u false).take n)

/-- Cross-scenario recovery (R372, R363, R366, R362): a SLEEP that finds frames outstanding arms the wakeup timer; its
expiry sends a WAKEUP; the WOKEN that answers reloads the frames and restores the credit. The spec marks R372 as its
own derivation; the bytes of WAKEUP are PRESUMED (notes/assumptions/21.md). -/
def Obligations.CrossScenarioRecovers : Prop :=
  ∀ s : State, s.inService → WindowInv s → s.established → s.seq ≠ s.rack → s.allocsSucceed → s.perfectSink →
    sendsToSink s.params.chain .bcsp = true → ∃ t1 t2 t3,
      exec .pwrRxSleep s = .next t1 ∧ t1.wakeTimer = .armed ∧ t1.sentQ = s.sentQ ∧
      exec .wakeTimeout t1 = .next t2 ∧ t2.phyTx = s.phyTx ++ s.wireBytes ⟨.link, [0x05, 0xFA]⟩ false ∧
      exec .pwrRxWoken t2 = .next t3 ∧ t3.relQ = s.sentQ ++ s.relQ ∧ t3.sentQ = [] ∧ t3.seq = s.rack ∧
      t3.credit = s.window ∧ t3.peerState = .active ∧ t3.retryCount = s.retryCount

/-! ### The chain (46_chain.md) -/

/-- CHAIN.NEXT and CHAIN.PREV (R391): the neighbours of a node in the ordered list, none past either end.
They run in a live block (R447). -/
def Obligations.ChainNeighboursAreTheListNeighbours : Prop :=
  ∀ (i : Nat) (s : State), s.alive = true → s.halted = false →
    (i + 1 < s.params.chain.length → exec (.chainNext i) s = .next { s with answer := .index (some (i + 1)) }) ∧
    (s.params.chain.length ≤ i + 1 → exec (.chainNext i) s = .next { s with answer := .index none }) ∧
    exec (.chainPrev (i + 1)) s = .next { s with answer := .index (some i) } ∧
    exec (.chainPrev 0) s = .next { s with answer := .index none }

/-- The neighbours of a node in the chain (R391 to R393): the kind at the place after it and at the place before it, none
past either end. Of several nodes of a kind, the send walk means the first, which a call on `up_tx` comes to, and the
receive walk the last, which a run on `phy_rx` comes to. `send_bytes` reaches the sink, and `receive_frame` the
consumer, exactly where the neighbour is one (R394). CHAIN.SEND_BYTES and CHAIN.RECV_FRAME (R392, R393): to the sink,
to the consumer. That a call with no target and a private tag are refused, and that several nodes of a kind share one
Link Context, is the model's (notes/assumptions/24.md, 25.md, 40.md). -/
def Obligations.ChainWalksToItsEnds : Prop :=
  (∀ (k j : NodeKind) (pre post chain : List NodeKind) (n : Nat),
    (k ∉ pre → kindAfter (pre ++ k :: j :: post) k = some j) ∧
    (k ∉ pre → kindAfter (pre ++ [k]) k = none) ∧
    (k ∉ post → kindBefore (pre ++ j :: k :: post) k = some j) ∧
    (k ∉ post → kindBefore (k :: post) k = none) ∧
    (k ≠ .consumer → kindAfter (List.replicate (n + 1) .consumer ++ k :: j :: post) k = some j) ∧
    (k ≠ .physicalSink → kindBefore (pre ++ j :: k :: List.replicate (n + 1) .physicalSink) k = some j) ∧
    (k ∉ chain → kindAfter chain k = none ∧ kindBefore chain k = none) ∧
    (sendsToSink chain k = true ↔ kindAfter chain k = some .physicalSink) ∧
    (deliversToConsumer chain k = true ↔ kindBefore chain k = some .consumer)) ∧
  ∀ (bs : Bytes) (tag : Tag) (s : State), s.inService →
    (kindAfter s.params.chain .bcsp = some .physicalSink → s.perfectSink →
      exec (.chainSendBytes bs) s = .next { s with phyTx := s.phyTx ++ bs, answer := .done }) ∧
    (kindAfter s.params.chain .bcsp ≠ some .physicalSink →
      exec (.chainSendBytes bs) s = .next { s with answer := .refused }) ∧
    (kindBefore s.params.chain .bcsp = some .consumer → tag ≠ .ack → tag ≠ .link →
      exec (.chainRecvFrame tag bs) s = .next { s with upRx := s.upRx ++ [⟨tag, bs⟩], answer := .done }) ∧
    (kindBefore s.params.chain .bcsp ≠ some .consumer ∨ tag = .ack ∨ tag = .link →
      exec (.chainRecvFrame tag bs) s = .next { s with answer := .refused })

/-- RX.BYTES (R396): one turn of the loop. A scan that completes no frame stores the collector; a completed frame is
decoded and received with the collector empty, and the rest of the run follows, unless the frame halted the block.
The list of draws is the model's form (notes/assumptions/6.md), and so is the answer of RX.BYTES on a halted block
(9.md). -/
def Obligations.RxBytesReceivesFrameByFrame : Prop :=
  ∀ (bs : Bytes) (s s' : State) (c : Collected), s.inService → c = slipCollect s.allocDraws s.collector bs →
    s' = { s with allocDraws := c.draws, faults := s.faults ++ List.replicate c.fails .alloc } →
    (c.completed = false → exec (.rxBytes bs) s = .next { s' with collector := c.buf, answer := .count bs.length }) ∧
    (c.completed = true → ∃ f t u, c.buf = some f ∧
      exec (.rxFrame (slipDecode f)) { s' with collector := none } = .next t ∧
      exec (.rxBytes c.rest) t = .next u ∧
      exec (.rxBytes bs) s = .next { u with answer := .count bs.length } ∧
      (t.halted = true → u = { t with answer := .notEnabled }))

/-- R94: however a run of bytes is split into runs, and whatever the allocator answers, the state and the traces after
RX.BYTES of the parts are those after RX.BYTES of the whole. The spec marks R94 as its own derivation. -/
def Obligations.FragmentationIsInvisible : Prop :=
  ∀ (runs : List Bytes) (s : State), s.inService → ∃ t u,
    receiveRuns runs s = .next t ∧ exec (.rxBytes runs.flatten) s = .next u ∧
    { t with answer := .done } = { u with answer := .done }

/-- PEER (30_encoding.md R147): RX.BYTES of the SLIP frame of the frame described; with no frame open and allocations
succeeding that is RX.FRAME of the described frame. The fields of the description are the model's
(notes/assumptions/34.md). -/
def Obligations.PeerSendsTheDescribedFrame : Prop :=
  ∀ (d : PeerFrame) (s : State) (frame bs : Bytes), s.inService → d.payload.length ≤ 4095 →
    frame = bcspFrame d.seq d.ack d.crc d.reliable d.type d.payload → bs = slipEncode frame d.escapeXonXoff →
    (∃ t, exec (.rxBytes bs) s = .next t ∧ exec (.peer d) s = .next t) ∧
    (s.collector = none → s.allocsSucceed → ∃ t,
      exec (.rxFrame frame) { s with allocDraws := s.allocDraws.drop (bs.length - 2) } = .next t ∧
      exec (.peer d) s = .next { t with answer := .count bs.length })

/-- PHY.WRITE (R397): the run is written whole while no more than the limit of hard errors is met, however the sink
splits it; one more is the fatal WRITE with the count of bytes written; a sink that takes nothing for ever makes no
step (DEDUCED, notes/assumptions/7.md). The sink's answers as a list are the model's choice: an exhausted list takes
the rest of the run whole (DESIGN CHOICE, 6.md), and an answer above the count offered, which R397 does not have, takes
what was offered (DESIGN CHOICE, 8.md). -/
def Obligations.PhyWriteRetriesWithinTheLimit : Prop :=
  ∀ (bs : Bytes) (s : State) (pre post : List SinkAnswer), s.alive = true → s.halted = false → .stalled ∉ pre →
    (s.sinkDraws = pre ++ post → pre.count .hardError ≤ s.params.writeRetryLimit →
      (bs.length ≤ (pre.map SinkAnswer.taken).sum ∨ post = []) → ∃ left, left <:+ s.sinkDraws ∧
        exec (.phyWrite bs) s = .next { s with phyTx := s.phyTx ++ bs, sinkDraws := left, answer := .done }) ∧
    (s.sinkDraws = pre ++ .hardError :: post → pre.count .hardError = s.params.writeRetryLimit →
      (pre.map SinkAnswer.taken).sum < bs.length →
        exec (.phyWrite bs) s = .next { s with
          phyTx := s.phyTx ++ bs.take (pre.map SinkAnswer.taken).sum
          sinkDraws := post
          faults := s.faults ++ [.write (pre.map SinkAnswer.taken).sum]
          halted := true
          answer := .faulted }) ∧
    (s.sinkDraws = pre ++ .stalled :: post → pre.count .hardError ≤ s.params.writeRetryLimit →
      (pre.map SinkAnswer.taken).sum < bs.length → exec (.phyWrite bs) s = .fault .sinkStalled)

/-! ### The sizer and the H4 adapter (47_h4_sizer.md) -/

/-- SIZER.LEN (R420, 30_encoding.md R142, R143): the table of header sizes, length fields and masks. The type bytes and
the rows but ACL's are PRESUMED (notes/assumptions/21.md); a vendor code has no row in the table, and the codes of
the four rows name their tags first (32.md); that it runs only in a live block is DEDUCED (13.md). -/
def Obligations.SizerReadsTheLengthField : Prop :=
  ∀ (t a b c d : Byte) (h tl : Bytes) (s : State), s.alive = true → s.halted = false →
    exec (.sizerLen 0x01 (a :: b :: c :: tl)) s = .next { s with answer := .sized (.len (3 + c.toNat)) } ∧
    exec (.sizerLen 0x02 (a :: b :: c :: d :: tl)) s = .next { s with
      answer := .sized (.len (4 + (c.toNat + 256 * d.toNat))) } ∧
    exec (.sizerLen 0x04 (a :: b :: tl)) s = .next { s with answer := .sized (.len (2 + b.toNat)) } ∧
    exec (.sizerLen 0x05 (a :: b :: c :: d :: tl)) s = .next { s with
      answer := .sized (.len (4 + (c.toNat + 256 * d.toNat) % 16384)) } ∧
    (∀ row ∈ ([(0x01, 3), (0x02, 4), (0x04, 2), (0x05, 4)] : List (Byte × Nat)), h.length < row.2 →
      exec (.sizerLen row.1 h) s = .next { s with answer := .sized .insufficientHeader }) ∧
    (t ∉ ([0x01, 0x02, 0x04, 0x05] : Bytes) →
      exec (.sizerLen t h) s = .next { s with answer := .sized .unknownType })

/-- H4.SEND_FRAME (R422): the type byte and the payload are written at once, without escaping; a tag without H4 code is
refused. That a call with no sink after the adapter is refused is R394's. The type bytes are PRESUMED
(notes/assumptions/21.md); the form of a refusal is the model's (10.md). -/
def Obligations.H4SendWritesTheUnit : Prop :=
  ∀ (p : Bytes) (s : State), s.inH4Service →
    (∀ row ∈ ([(.cmd, some 0x01), (.acl, some 0x02), (.evt, some 0x04), (.iso, some 0x05), (.vnd, s.params.h4VendorCode),
        (.ack, none), (.link, none)] : List (Tag × Option Byte)),
      (row.2 = none → exec (.h4SendFrame row.1 p) s = .next { s with answer := .refused }) ∧
      (∀ code, row.2 = some code → kindAfter s.params.chain .h4Adapter = some .physicalSink → s.perfectSink →
        exec (.h4SendFrame row.1 p) s = .next { s with phyTx := s.phyTx ++ code :: p, answer := .done }) ∧
      (∀ code, row.2 = some code → kindAfter s.params.chain .h4Adapter ≠ some .physicalSink →
        exec (.h4SendFrame row.1 p) s = .next { s with answer := .refused }))

/-- H4.RECV_BYTES (R423). One byte joins the collector; a byte that makes the type unknown empties it; the byte that
completes a unit delivers it. A run is received as its parts in order, and a whole unit met with the collector empty
is delivered. That one byte of unknown type is dropped is the spec's own choice (R423); which tag a shared code
names is DEDUCED (notes/assumptions/32.md). -/
def Obligations.H4DeliversWholeUnits : Prop :=
  (∀ (b t : Byte) (rest : Bytes) (s : State), s.inH4Service → s.h4Collector ++ [b] = t :: rest →
    (sizerLen s.params t rest = .unknownType →
      exec (.h4RecvBytes [b]) s = .next { s with h4Collector := [], answer := .count 1 }) ∧
    (sizerLen s.params t rest = .insufficientHeader →
      exec (.h4RecvBytes [b]) s = .next { s with h4Collector := t :: rest, answer := .count 1 }) ∧
    (∀ n, sizerLen s.params t rest = .len n → rest.length ≠ n →
      exec (.h4RecvBytes [b]) s = .next { s with h4Collector := t :: rest, answer := .count 1 }) ∧
    (∀ tag, sizerLen s.params t rest = .len rest.length → h4Tag s.params t = some tag →
      deliversToConsumer s.params.chain .h4Adapter = true →
      exec (.h4RecvBytes [b]) s = .next { s with
        h4Collector := [], upRx := s.upRx ++ [⟨tag, rest⟩], answer := .count 1 })) ∧
  (∀ s : State, s.inH4Service →
    (∀ a b : Bytes, ∃ t u, exec (.h4RecvBytes a) s = .next t ∧ exec (.h4RecvBytes b) t = .next u ∧
      exec (.h4RecvBytes (a ++ b)) s = .next { u with answer := .count (a.length + b.length) }) ∧
    (∀ (t : Byte) (packet : Bytes) (tag : Tag), s.h4Collector = [] → h4Tag s.params t = some tag →
      sizerLen s.params t packet = .len packet.length → deliversToConsumer s.params.chain .h4Adapter = true →
      exec (.h4RecvBytes (t :: packet)) s = .next { s with
        upRx := s.upRx ++ [⟨tag, packet⟩], answer := .count (packet.length + 1) }))

/-- The rows of the wire formats, received at the layer that decodes them (30_encoding.md R134, R137, R139 to R142,
R148): a header word with what follows it is RX.FRAME of that frame, for each of the sixteen type codes; a
link-control payload is the dispatch of its message; an H4 type byte with what follows it is H4.RECV_BYTES of those
bytes; the configuration byte alone is captured and committed. That a row of the table stands for this receipt is
the model's reading (notes/assumptions/18.md, 19.md). The codes and bit places are PRESUMED (21.md). -/
def Obligations.WireRowsAreReceived : Prop :=
  (∀ (h : HdrFields) (tail : Bytes) (s : State), s.inService →
    ∀ row ∈ ([(0, .bcspAck h tail), (1, .bcspCmd h tail), (2, .bcspAcl h tail), (3, .bcspRsvd3 h tail),
        (4, .bcspEvt h tail), (5, .bcspIso h tail), (6, .bcspRsvd6 h tail), (7, .bcspRsvd7 h tail),
        (8, .bcspRsvd8 h tail), (9, .bcspRsvd9 h tail), (10, .bcspRsvd10 h tail), (11, .bcspRsvd11 h tail),
        (12, .bcspRsvd12 h tail), (13, .bcspRsvd13 h tail), (14, .bcspVnd h tail),
        (15, .bcspLink h tail)] : List (BitVec 4 × Instr)), ∃ t,
      exec (.rxFrame (headerBytes (headerWord h.checksum h.length row.1 h.reliable h.crcPresent h.ack h.seq) ++ tail)) s
        = .next t ∧
      exec row.2 s = .next t) ∧
  (∀ (c : Byte) (s : State), s.inService →
    (∀ row ∈ ([(.lcSync, .sync), (.lcSyncResp, .syncResp), (.lcConf, .conf none), (.lcConfCfg c, .conf (some c)),
        (.lcConfResp, .confResp none), (.lcConfRespCfg c, .confResp (some c)), (.lcWakeup, .wakeup), (.lcWoken, .woken),
        (.lcSleep, .sleep)] : List (Instr × LcMsg)), ∃ t,
      exec (.linkDispatch row.2) s = .next t ∧ exec row.1 s = .next t) ∧
    (∀ p, p ∉ ([[0x01, 0x7E], [0x02, 0x7D], [0x03, 0xFC], [0x04, 0x7B], [0x05, 0xFA], [0x06, 0xF9], [0x07, 0x78]] :
        List Bytes) → (∀ d, p ≠ [0x03, 0xFC, d] ∧ p ≠ [0x04, 0x7B, d]) →
      exec (.lcUnknown p) s = .next { s with answer := .done })) ∧
  (∀ (t : Byte) (rest : Bytes) (s : State), s.inH4Service →
    ∀ row ∈ ([(0x01, .h4Cmd rest), (0x02, .h4Acl rest), (0x04, .h4Evt rest), (0x05, .h4Iso rest),
        (t, .h4Unknown t rest)] : List (Byte × Instr)), ∃ u,
      exec (.h4RecvBytes (row.1 :: rest)) s = .next u ∧ exec row.2 s = .next u) ∧
  (∀ (window : BitVec 3) (flow crc : Bool) (version : BitVec 2) (s : State), s.inService → ∃ t,
    exec .linkEnterActive { s with
      cfgPeer := some (0#1 ++ version ++ BitVec.ofBool crc ++ BitVec.ofBool flow ++ window) } = .next t ∧
    exec (.cfg window flow crc version) s = .next t)

/-! ### Faults, initialisation, teardown (60_exceptions.md, 70_reset_and_hazards.md) -/

/-- raise Fault (60_exceptions.md R446): the report is appended; the four fatal codes halt the block; nothing else is
written. That a fatal report freezes the block is the spec's own choice (R446). -/
def Obligations.FatalReportsHalt : Prop :=
  ∀ (s : State), s.alive = true → s.halted = false →
    (∀ (a b : Count3) (n : Nat), ∀ r ∈ ([.outOfSequence a b, .retryLimit n, .write n, .protocolSyncWhileActive] :
        List Report),
      exec (.raiseFault r) s = .next { s with faults := s.faults ++ [r], halted := true, answer := .done }) ∧
    (∀ (c : ChecksumCause), ∀ r ∈ ([.checksum c, .crc, .alloc] : List Report),
      exec (.raiseFault r) s = .next { s with faults := s.faults ++ [r], answer := .done })

/-- R447, R492: while the block is halted, or does not exist, no operation but the supervising layer's takes a step: its
caller is told and nothing changes. That this takes in the codecs, whose own rules say "always", is DEDUCED
(notes/assumptions/13.md); the form of the answer is the model's (9.md). -/
def Obligations.HaltedBlockTurnsOperationsAway : Prop :=
  ∀ (i : Instr) (s : State), s.alive = false ∨ s.halted = true → i.supervision = false →
    exec i s = .next { s with answer := .notEnabled }

/-- SYS.INIT (70_reset_and_hazards.md R490, 10_state.md R50, 60_exceptions.md R452): where the block does not exist or
is halted every register takes its value of R50; else it is refused. That the parameters are SYS.INIT's operands and
held in the state is DEDUCED (notes/assumptions/5.md); the form of the refusal is the model's (10.md) and so is
keeping the traces (26.md). -/
def Obligations.InitLoadsTheResetValues : Prop :=
  ∀ (p : Params) (s : State),
    (s.alive = false ∨ s.halted = true → exec (.sysInit p) s = .next { s with
      params := p
      seq := 0
      ack := 0
      rack := 0
      credit := p.w0
      retryCount := 0
      window := p.w0
      useCrc := p.c0
      swFlow := p.f0
      cfgPeer := none
      localState := .uninitialized
      peerState := .uninitialized
      ackRequired := false
      wakeupPending := false
      guardWait := false
      workerScheduled := false
      alive := true
      halted := false
      rtxWork := false
      wakeWork := false
      rtxTimer := .armed
      wakeTimer := .idle
      unrelQ := []
      relQ := []
      sentQ := []
      collector := none
      h4Collector := []
      answer := .done }) ∧
    (s.alive = true → s.halted = false → exec (.sysInit p) s = .next { s with answer := .refused })

/-- SYS.TEARDOWN (R492, R101): timers, deferred work, worker, queues and collectors are cleared and the context no
longer exists; nothing is emitted. The registers R492 leaves unspecified are free values: nothing is said of them
(notes/assumptions/12.md). The answer of an operation that is not enabled is the model's form (9.md). -/
def Obligations.TeardownClearsTheContext : Prop :=
  ∀ s : State,
    (s.alive = true → ∃ t, exec .sysTeardown s = .next t ∧
      t.rtxTimer = .idle ∧ t.wakeTimer = .idle ∧ t.rtxWork = false ∧ t.wakeWork = false ∧
      t.workerScheduled = false ∧ t.unrelQ = [] ∧ t.relQ = [] ∧ t.sentQ = [] ∧ t.collector = none ∧
      t.h4Collector = [] ∧ t.alive = false ∧
      t.phyTx = s.phyTx ∧ t.upRx = s.upRx ∧ t.faults = s.faults ∧
      t.params = s.params ∧ t.events = s.events ∧ t.allocDraws = s.allocDraws ∧ t.sinkDraws = s.sinkDraws) ∧
    (s.alive = false → exec .sysTeardown s = .next { s with answer := .notEnabled })

/-- What reset leaves (R50, R491), whatever the parameters: every register and trace at its value of the table of R50.
The reset state of the machine is the one with the parameters of notes/assumptions/4.md. Most values of R50 are the
spec's own choice (R50); that reset is the state after SYS.INIT is DEDUCED (3.md). -/
def Obligations.ResetIsTheTableOfReset : Prop :=
  State.reset = State.resetWith State.reset.params ∧ State.reset.params.wf = true ∧
  ∀ (p : Params) (s : State), s = State.resetWith p →
    s.params = p ∧ s.seq = 0 ∧ s.ack = 0 ∧ s.rack = 0 ∧ s.credit = p.w0 ∧ s.retryCount = 0 ∧ s.window = p.w0 ∧
    s.useCrc = p.c0 ∧ s.swFlow = p.f0 ∧ s.cfgPeer = none ∧ s.localState = .uninitialized ∧
    s.peerState = .uninitialized ∧ s.ackRequired = false ∧ s.wakeupPending = false ∧ s.guardWait = false ∧
    s.workerScheduled = false ∧ s.alive = true ∧ s.halted = false ∧ s.rtxWork = false ∧ s.wakeWork = false ∧
    s.rtxTimer = .armed ∧ s.wakeTimer = .idle ∧ s.unrelQ = [] ∧ s.relQ = [] ∧ s.sentQ = [] ∧ s.collector = none ∧
    s.h4Collector = [] ∧ s.phyTx = [] ∧ s.upRx = [] ∧ s.faults = []

/-! ### Invariants -/

/-- The reset state has the form of storage and registers, and the sliding window invariant. What StorageInv gathers is
the model's choice (notes/assumptions/30.md). -/
def Obligations.ResetHasTheInvariants : Prop := StorageInv State.reset ∧ WindowInv State.reset

/-- Every step keeps the form of storage and registers (R8, R47, R48, R37, R329, R503), from every state that has it.
What StorageInv gathers is the model's choice (notes/assumptions/30.md). -/
def Obligations.EveryStepKeepsTheStorageForm : Prop :=
  ∀ s t : State, StorageInv s → step s = .next t → StorageInv t

/-- Every step keeps the sliding window invariant and the credit equation (R36, R286), from every state that has them; a
helper that writes the counters alone keeps them where it belongs (`Instr.countersBelong`). That the helpers run
alone is the model's reading (notes/assumptions/22.md). -/
def Obligations.EveryStepKeepsTheSlidingWindow : Prop :=
  ∀ s t : State, StorageInv s → WindowInv s → (∀ i, fetch s = .instr i → i.countersBelong s) → step s = .next t →
    WindowInv t

/-- The output traces only grow (10_state.md R49, 60_exceptions.md R440). The parameters and the environment's coming
answers are not the block's to write: only SYS.INIT sets the parameters (R8, R51, R490) and no step adds a draw; the
events left are those that had not come yet (the lists are the model's form, notes/assumptions/1.md, 6.md). -/
def Obligations.TracesGrowAndTheEnvironmentIsOnlyRead : Prop :=
  ∀ s t : State, step s = .next t →
    s.phyTx <+: t.phyTx ∧ s.upRx <+: t.upRx ∧ s.faults <+: t.faults ∧
    t.events = s.events.tail ∧ t.allocDraws <:+ s.allocDraws ∧ t.sinkDraws <:+ s.sinkDraws ∧
    (t.params = s.params ∨ ∃ p, fetch s = .instr (.sysInit p) ∧ t.params = p)
end

