-- ==== Sys2Proof/Laws/State.lean ====
section
/-! SUPPORT. What each field is after each named update of the state: one lemma per field per update, so that no proof unfolds
an update. -/

namespace Sys2Proof.Machine

/-! ### State.answering -/

@[simp] theorem State.answering_params (s : State) (a : Answer) : (s.answering a).params = s.params := rfl
@[simp] theorem State.answering_seq (s : State) (a : Answer) : (s.answering a).seq = s.seq := rfl
@[simp] theorem State.answering_ack (s : State) (a : Answer) : (s.answering a).ack = s.ack := rfl
@[simp] theorem State.answering_rack (s : State) (a : Answer) : (s.answering a).rack = s.rack := rfl
@[simp] theorem State.answering_credit (s : State) (a : Answer) : (s.answering a).credit = s.credit := rfl
@[simp] theorem State.answering_retryCount (s : State) (a : Answer) : (s.answering a).retryCount = s.retryCount := rfl
@[simp] theorem State.answering_window (s : State) (a : Answer) : (s.answering a).window = s.window := rfl
@[simp] theorem State.answering_useCrc (s : State) (a : Answer) : (s.answering a).useCrc = s.useCrc := rfl
@[simp] theorem State.answering_swFlow (s : State) (a : Answer) : (s.answering a).swFlow = s.swFlow := rfl
@[simp] theorem State.answering_cfgPeer (s : State) (a : Answer) : (s.answering a).cfgPeer = s.cfgPeer := rfl
@[simp] theorem State.answering_localState (s : State) (a : Answer) : (s.answering a).localState = s.localState := rfl
@[simp] theorem State.answering_peerState (s : State) (a : Answer) : (s.answering a).peerState = s.peerState := rfl
@[simp] theorem State.answering_ackRequired (s : State) (a : Answer) : (s.answering a).ackRequired = s.ackRequired := rfl
@[simp] theorem State.answering_wakeupPending (s : State) (a : Answer) : (s.answering a).wakeupPending = s.wakeupPending := rfl
@[simp] theorem State.answering_guardWait (s : State) (a : Answer) : (s.answering a).guardWait = s.guardWait := rfl
@[simp] theorem State.answering_workerScheduled (s : State) (a : Answer) : (s.answering a).workerScheduled = s.workerScheduled := rfl
@[simp] theorem State.answering_alive (s : State) (a : Answer) : (s.answering a).alive = s.alive := rfl
@[simp] theorem State.answering_halted (s : State) (a : Answer) : (s.answering a).halted = s.halted := rfl
@[simp] theorem State.answering_rtxWork (s : State) (a : Answer) : (s.answering a).rtxWork = s.rtxWork := rfl
@[simp] theorem State.answering_wakeWork (s : State) (a : Answer) : (s.answering a).wakeWork = s.wakeWork := rfl
@[simp] theorem State.answering_rtxTimer (s : State) (a : Answer) : (s.answering a).rtxTimer = s.rtxTimer := rfl
@[simp] theorem State.answering_wakeTimer (s : State) (a : Answer) : (s.answering a).wakeTimer = s.wakeTimer := rfl
@[simp] theorem State.answering_unrelQ (s : State) (a : Answer) : (s.answering a).unrelQ = s.unrelQ := rfl
@[simp] theorem State.answering_relQ (s : State) (a : Answer) : (s.answering a).relQ = s.relQ := rfl
@[simp] theorem State.answering_sentQ (s : State) (a : Answer) : (s.answering a).sentQ = s.sentQ := rfl
@[simp] theorem State.answering_collector (s : State) (a : Answer) : (s.answering a).collector = s.collector := rfl
@[simp] theorem State.answering_h4Collector (s : State) (a : Answer) : (s.answering a).h4Collector = s.h4Collector := rfl
@[simp] theorem State.answering_phyTx (s : State) (a : Answer) : (s.answering a).phyTx = s.phyTx := rfl
@[simp] theorem State.answering_upRx (s : State) (a : Answer) : (s.answering a).upRx = s.upRx := rfl
@[simp] theorem State.answering_faults (s : State) (a : Answer) : (s.answering a).faults = s.faults := rfl
@[simp] theorem State.answering_events (s : State) (a : Answer) : (s.answering a).events = s.events := rfl
@[simp] theorem State.answering_allocDraws (s : State) (a : Answer) : (s.answering a).allocDraws = s.allocDraws := rfl
@[simp] theorem State.answering_sinkDraws (s : State) (a : Answer) : (s.answering a).sinkDraws = s.sinkDraws := rfl
@[simp] theorem State.answering_answer (s : State) (a : Answer) : (s.answering a).answer = a := rfl
@[simp] theorem State.answering_freeCount (s : State) (a : Answer) : (s.answering a).freeCount = s.freeCount := rfl

/-! ### State.scheduleWorker -/

@[simp] theorem State.scheduleWorker_params (s : State) : s.scheduleWorker.params = s.params := rfl
@[simp] theorem State.scheduleWorker_seq (s : State) : s.scheduleWorker.seq = s.seq := rfl
@[simp] theorem State.scheduleWorker_ack (s : State) : s.scheduleWorker.ack = s.ack := rfl
@[simp] theorem State.scheduleWorker_rack (s : State) : s.scheduleWorker.rack = s.rack := rfl
@[simp] theorem State.scheduleWorker_credit (s : State) : s.scheduleWorker.credit = s.credit := rfl
@[simp] theorem State.scheduleWorker_retryCount (s : State) : s.scheduleWorker.retryCount = s.retryCount := rfl
@[simp] theorem State.scheduleWorker_window (s : State) : s.scheduleWorker.window = s.window := rfl
@[simp] theorem State.scheduleWorker_useCrc (s : State) : s.scheduleWorker.useCrc = s.useCrc := rfl
@[simp] theorem State.scheduleWorker_swFlow (s : State) : s.scheduleWorker.swFlow = s.swFlow := rfl
@[simp] theorem State.scheduleWorker_cfgPeer (s : State) : s.scheduleWorker.cfgPeer = s.cfgPeer := rfl
@[simp] theorem State.scheduleWorker_localState (s : State) : s.scheduleWorker.localState = s.localState := rfl
@[simp] theorem State.scheduleWorker_peerState (s : State) : s.scheduleWorker.peerState = s.peerState := rfl
@[simp] theorem State.scheduleWorker_ackRequired (s : State) : s.scheduleWorker.ackRequired = s.ackRequired := rfl
@[simp] theorem State.scheduleWorker_wakeupPending (s : State) : s.scheduleWorker.wakeupPending = s.wakeupPending := rfl
@[simp] theorem State.scheduleWorker_guardWait (s : State) : s.scheduleWorker.guardWait = s.guardWait := rfl
@[simp] theorem State.scheduleWorker_workerScheduled (s : State) : s.scheduleWorker.workerScheduled = true := rfl
@[simp] theorem State.scheduleWorker_alive (s : State) : s.scheduleWorker.alive = s.alive := rfl
@[simp] theorem State.scheduleWorker_halted (s : State) : s.scheduleWorker.halted = s.halted := rfl
@[simp] theorem State.scheduleWorker_rtxWork (s : State) : s.scheduleWorker.rtxWork = s.rtxWork := rfl
@[simp] theorem State.scheduleWorker_wakeWork (s : State) : s.scheduleWorker.wakeWork = s.wakeWork := rfl
@[simp] theorem State.scheduleWorker_rtxTimer (s : State) : s.scheduleWorker.rtxTimer = s.rtxTimer := rfl
@[simp] theorem State.scheduleWorker_wakeTimer (s : State) : s.scheduleWorker.wakeTimer = s.wakeTimer := rfl
@[simp] theorem State.scheduleWorker_unrelQ (s : State) : s.scheduleWorker.unrelQ = s.unrelQ := rfl
@[simp] theorem State.scheduleWorker_relQ (s : State) : s.scheduleWorker.relQ = s.relQ := rfl
@[simp] theorem State.scheduleWorker_sentQ (s : State) : s.scheduleWorker.sentQ = s.sentQ := rfl
@[simp] theorem State.scheduleWorker_collector (s : State) : s.scheduleWorker.collector = s.collector := rfl
@[simp] theorem State.scheduleWorker_h4Collector (s : State) : s.scheduleWorker.h4Collector = s.h4Collector := rfl
@[simp] theorem State.scheduleWorker_phyTx (s : State) : s.scheduleWorker.phyTx = s.phyTx := rfl
@[simp] theorem State.scheduleWorker_upRx (s : State) : s.scheduleWorker.upRx = s.upRx := rfl
@[simp] theorem State.scheduleWorker_faults (s : State) : s.scheduleWorker.faults = s.faults := rfl
@[simp] theorem State.scheduleWorker_events (s : State) : s.scheduleWorker.events = s.events := rfl
@[simp] theorem State.scheduleWorker_allocDraws (s : State) : s.scheduleWorker.allocDraws = s.allocDraws := rfl
@[simp] theorem State.scheduleWorker_sinkDraws (s : State) : s.scheduleWorker.sinkDraws = s.sinkDraws := rfl
@[simp] theorem State.scheduleWorker_answer (s : State) : s.scheduleWorker.answer = s.answer := rfl
@[simp] theorem State.scheduleWorker_freeCount (s : State) : s.scheduleWorker.freeCount = s.freeCount := rfl

/-! ### State.armRtx -/

@[simp] theorem State.armRtx_params (s : State) : s.armRtx.params = s.params := rfl
@[simp] theorem State.armRtx_seq (s : State) : s.armRtx.seq = s.seq := rfl
@[simp] theorem State.armRtx_ack (s : State) : s.armRtx.ack = s.ack := rfl
@[simp] theorem State.armRtx_rack (s : State) : s.armRtx.rack = s.rack := rfl
@[simp] theorem State.armRtx_credit (s : State) : s.armRtx.credit = s.credit := rfl
@[simp] theorem State.armRtx_retryCount (s : State) : s.armRtx.retryCount = s.retryCount := rfl
@[simp] theorem State.armRtx_window (s : State) : s.armRtx.window = s.window := rfl
@[simp] theorem State.armRtx_useCrc (s : State) : s.armRtx.useCrc = s.useCrc := rfl
@[simp] theorem State.armRtx_swFlow (s : State) : s.armRtx.swFlow = s.swFlow := rfl
@[simp] theorem State.armRtx_cfgPeer (s : State) : s.armRtx.cfgPeer = s.cfgPeer := rfl
@[simp] theorem State.armRtx_localState (s : State) : s.armRtx.localState = s.localState := rfl
@[simp] theorem State.armRtx_peerState (s : State) : s.armRtx.peerState = s.peerState := rfl
@[simp] theorem State.armRtx_ackRequired (s : State) : s.armRtx.ackRequired = s.ackRequired := rfl
@[simp] theorem State.armRtx_wakeupPending (s : State) : s.armRtx.wakeupPending = s.wakeupPending := rfl
@[simp] theorem State.armRtx_guardWait (s : State) : s.armRtx.guardWait = s.guardWait := rfl
@[simp] theorem State.armRtx_workerScheduled (s : State) : s.armRtx.workerScheduled = s.workerScheduled := rfl
@[simp] theorem State.armRtx_alive (s : State) : s.armRtx.alive = s.alive := rfl
@[simp] theorem State.armRtx_halted (s : State) : s.armRtx.halted = s.halted := rfl
@[simp] theorem State.armRtx_rtxWork (s : State) : s.armRtx.rtxWork = s.rtxWork := rfl
@[simp] theorem State.armRtx_wakeWork (s : State) : s.armRtx.wakeWork = s.wakeWork := rfl
@[simp] theorem State.armRtx_rtxTimer (s : State) : s.armRtx.rtxTimer = .armed := rfl
@[simp] theorem State.armRtx_wakeTimer (s : State) : s.armRtx.wakeTimer = s.wakeTimer := rfl
@[simp] theorem State.armRtx_unrelQ (s : State) : s.armRtx.unrelQ = s.unrelQ := rfl
@[simp] theorem State.armRtx_relQ (s : State) : s.armRtx.relQ = s.relQ := rfl
@[simp] theorem State.armRtx_sentQ (s : State) : s.armRtx.sentQ = s.sentQ := rfl
@[simp] theorem State.armRtx_collector (s : State) : s.armRtx.collector = s.collector := rfl
@[simp] theorem State.armRtx_h4Collector (s : State) : s.armRtx.h4Collector = s.h4Collector := rfl
@[simp] theorem State.armRtx_phyTx (s : State) : s.armRtx.phyTx = s.phyTx := rfl
@[simp] theorem State.armRtx_upRx (s : State) : s.armRtx.upRx = s.upRx := rfl
@[simp] theorem State.armRtx_faults (s : State) : s.armRtx.faults = s.faults := rfl
@[simp] theorem State.armRtx_events (s : State) : s.armRtx.events = s.events := rfl
@[simp] theorem State.armRtx_allocDraws (s : State) : s.armRtx.allocDraws = s.allocDraws := rfl
@[simp] theorem State.armRtx_sinkDraws (s : State) : s.armRtx.sinkDraws = s.sinkDraws := rfl
@[simp] theorem State.armRtx_answer (s : State) : s.armRtx.answer = s.answer := rfl
@[simp] theorem State.armRtx_freeCount (s : State) : s.armRtx.freeCount = s.freeCount := rfl

/-! ### State.cancelRtx -/

@[simp] theorem State.cancelRtx_params (s : State) : s.cancelRtx.params = s.params := rfl
@[simp] theorem State.cancelRtx_seq (s : State) : s.cancelRtx.seq = s.seq := rfl
@[simp] theorem State.cancelRtx_ack (s : State) : s.cancelRtx.ack = s.ack := rfl
@[simp] theorem State.cancelRtx_rack (s : State) : s.cancelRtx.rack = s.rack := rfl
@[simp] theorem State.cancelRtx_credit (s : State) : s.cancelRtx.credit = s.credit := rfl
@[simp] theorem State.cancelRtx_retryCount (s : State) : s.cancelRtx.retryCount = s.retryCount := rfl
@[simp] theorem State.cancelRtx_window (s : State) : s.cancelRtx.window = s.window := rfl
@[simp] theorem State.cancelRtx_useCrc (s : State) : s.cancelRtx.useCrc = s.useCrc := rfl
@[simp] theorem State.cancelRtx_swFlow (s : State) : s.cancelRtx.swFlow = s.swFlow := rfl
@[simp] theorem State.cancelRtx_cfgPeer (s : State) : s.cancelRtx.cfgPeer = s.cfgPeer := rfl
@[simp] theorem State.cancelRtx_localState (s : State) : s.cancelRtx.localState = s.localState := rfl
@[simp] theorem State.cancelRtx_peerState (s : State) : s.cancelRtx.peerState = s.peerState := rfl
@[simp] theorem State.cancelRtx_ackRequired (s : State) : s.cancelRtx.ackRequired = s.ackRequired := rfl
@[simp] theorem State.cancelRtx_wakeupPending (s : State) : s.cancelRtx.wakeupPending = s.wakeupPending := rfl
@[simp] theorem State.cancelRtx_guardWait (s : State) : s.cancelRtx.guardWait = s.guardWait := rfl
@[simp] theorem State.cancelRtx_workerScheduled (s : State) : s.cancelRtx.workerScheduled = s.workerScheduled := rfl
@[simp] theorem State.cancelRtx_alive (s : State) : s.cancelRtx.alive = s.alive := rfl
@[simp] theorem State.cancelRtx_halted (s : State) : s.cancelRtx.halted = s.halted := rfl
@[simp] theorem State.cancelRtx_rtxWork (s : State) : s.cancelRtx.rtxWork = s.rtxWork := rfl
@[simp] theorem State.cancelRtx_wakeWork (s : State) : s.cancelRtx.wakeWork = s.wakeWork := rfl
@[simp] theorem State.cancelRtx_rtxTimer (s : State) : s.cancelRtx.rtxTimer = .idle := rfl
@[simp] theorem State.cancelRtx_wakeTimer (s : State) : s.cancelRtx.wakeTimer = s.wakeTimer := rfl
@[simp] theorem State.cancelRtx_unrelQ (s : State) : s.cancelRtx.unrelQ = s.unrelQ := rfl
@[simp] theorem State.cancelRtx_relQ (s : State) : s.cancelRtx.relQ = s.relQ := rfl
@[simp] theorem State.cancelRtx_sentQ (s : State) : s.cancelRtx.sentQ = s.sentQ := rfl
@[simp] theorem State.cancelRtx_collector (s : State) : s.cancelRtx.collector = s.collector := rfl
@[simp] theorem State.cancelRtx_h4Collector (s : State) : s.cancelRtx.h4Collector = s.h4Collector := rfl
@[simp] theorem State.cancelRtx_phyTx (s : State) : s.cancelRtx.phyTx = s.phyTx := rfl
@[simp] theorem State.cancelRtx_upRx (s : State) : s.cancelRtx.upRx = s.upRx := rfl
@[simp] theorem State.cancelRtx_faults (s : State) : s.cancelRtx.faults = s.faults := rfl
@[simp] theorem State.cancelRtx_events (s : State) : s.cancelRtx.events = s.events := rfl
@[simp] theorem State.cancelRtx_allocDraws (s : State) : s.cancelRtx.allocDraws = s.allocDraws := rfl
@[simp] theorem State.cancelRtx_sinkDraws (s : State) : s.cancelRtx.sinkDraws = s.sinkDraws := rfl
@[simp] theorem State.cancelRtx_answer (s : State) : s.cancelRtx.answer = s.answer := rfl
@[simp] theorem State.cancelRtx_freeCount (s : State) : s.cancelRtx.freeCount = s.freeCount := rfl

/-! ### State.armWake -/

@[simp] theorem State.armWake_params (s : State) : s.armWake.params = s.params := rfl
@[simp] theorem State.armWake_seq (s : State) : s.armWake.seq = s.seq := rfl
@[simp] theorem State.armWake_ack (s : State) : s.armWake.ack = s.ack := rfl
@[simp] theorem State.armWake_rack (s : State) : s.armWake.rack = s.rack := rfl
@[simp] theorem State.armWake_credit (s : State) : s.armWake.credit = s.credit := rfl
@[simp] theorem State.armWake_retryCount (s : State) : s.armWake.retryCount = s.retryCount := rfl
@[simp] theorem State.armWake_window (s : State) : s.armWake.window = s.window := rfl
@[simp] theorem State.armWake_useCrc (s : State) : s.armWake.useCrc = s.useCrc := rfl
@[simp] theorem State.armWake_swFlow (s : State) : s.armWake.swFlow = s.swFlow := rfl
@[simp] theorem State.armWake_cfgPeer (s : State) : s.armWake.cfgPeer = s.cfgPeer := rfl
@[simp] theorem State.armWake_localState (s : State) : s.armWake.localState = s.localState := rfl
@[simp] theorem State.armWake_peerState (s : State) : s.armWake.peerState = s.peerState := rfl
@[simp] theorem State.armWake_ackRequired (s : State) : s.armWake.ackRequired = s.ackRequired := rfl
@[simp] theorem State.armWake_wakeupPending (s : State) : s.armWake.wakeupPending = s.wakeupPending := rfl
@[simp] theorem State.armWake_guardWait (s : State) : s.armWake.guardWait = s.guardWait := rfl
@[simp] theorem State.armWake_workerScheduled (s : State) : s.armWake.workerScheduled = s.workerScheduled := rfl
@[simp] theorem State.armWake_alive (s : State) : s.armWake.alive = s.alive := rfl
@[simp] theorem State.armWake_halted (s : State) : s.armWake.halted = s.halted := rfl
@[simp] theorem State.armWake_rtxWork (s : State) : s.armWake.rtxWork = s.rtxWork := rfl
@[simp] theorem State.armWake_wakeWork (s : State) : s.armWake.wakeWork = s.wakeWork := rfl
@[simp] theorem State.armWake_rtxTimer (s : State) : s.armWake.rtxTimer = s.rtxTimer := rfl
@[simp] theorem State.armWake_wakeTimer (s : State) : s.armWake.wakeTimer = .armed := rfl
@[simp] theorem State.armWake_unrelQ (s : State) : s.armWake.unrelQ = s.unrelQ := rfl
@[simp] theorem State.armWake_relQ (s : State) : s.armWake.relQ = s.relQ := rfl
@[simp] theorem State.armWake_sentQ (s : State) : s.armWake.sentQ = s.sentQ := rfl
@[simp] theorem State.armWake_collector (s : State) : s.armWake.collector = s.collector := rfl
@[simp] theorem State.armWake_h4Collector (s : State) : s.armWake.h4Collector = s.h4Collector := rfl
@[simp] theorem State.armWake_phyTx (s : State) : s.armWake.phyTx = s.phyTx := rfl
@[simp] theorem State.armWake_upRx (s : State) : s.armWake.upRx = s.upRx := rfl
@[simp] theorem State.armWake_faults (s : State) : s.armWake.faults = s.faults := rfl
@[simp] theorem State.armWake_events (s : State) : s.armWake.events = s.events := rfl
@[simp] theorem State.armWake_allocDraws (s : State) : s.armWake.allocDraws = s.allocDraws := rfl
@[simp] theorem State.armWake_sinkDraws (s : State) : s.armWake.sinkDraws = s.sinkDraws := rfl
@[simp] theorem State.armWake_answer (s : State) : s.armWake.answer = s.answer := rfl
@[simp] theorem State.armWake_freeCount (s : State) : s.armWake.freeCount = s.freeCount := rfl

/-! ### State.cancelWake -/

@[simp] theorem State.cancelWake_params (s : State) : s.cancelWake.params = s.params := rfl
@[simp] theorem State.cancelWake_seq (s : State) : s.cancelWake.seq = s.seq := rfl
@[simp] theorem State.cancelWake_ack (s : State) : s.cancelWake.ack = s.ack := rfl
@[simp] theorem State.cancelWake_rack (s : State) : s.cancelWake.rack = s.rack := rfl
@[simp] theorem State.cancelWake_credit (s : State) : s.cancelWake.credit = s.credit := rfl
@[simp] theorem State.cancelWake_retryCount (s : State) : s.cancelWake.retryCount = s.retryCount := rfl
@[simp] theorem State.cancelWake_window (s : State) : s.cancelWake.window = s.window := rfl
@[simp] theorem State.cancelWake_useCrc (s : State) : s.cancelWake.useCrc = s.useCrc := rfl
@[simp] theorem State.cancelWake_swFlow (s : State) : s.cancelWake.swFlow = s.swFlow := rfl
@[simp] theorem State.cancelWake_cfgPeer (s : State) : s.cancelWake.cfgPeer = s.cfgPeer := rfl
@[simp] theorem State.cancelWake_localState (s : State) : s.cancelWake.localState = s.localState := rfl
@[simp] theorem State.cancelWake_peerState (s : State) : s.cancelWake.peerState = s.peerState := rfl
@[simp] theorem State.cancelWake_ackRequired (s : State) : s.cancelWake.ackRequired = s.ackRequired := rfl
@[simp] theorem State.cancelWake_wakeupPending (s : State) : s.cancelWake.wakeupPending = s.wakeupPending := rfl
@[simp] theorem State.cancelWake_guardWait (s : State) : s.cancelWake.guardWait = s.guardWait := rfl
@[simp] theorem State.cancelWake_workerScheduled (s : State) : s.cancelWake.workerScheduled = s.workerScheduled := rfl
@[simp] theorem State.cancelWake_alive (s : State) : s.cancelWake.alive = s.alive := rfl
@[simp] theorem State.cancelWake_halted (s : State) : s.cancelWake.halted = s.halted := rfl
@[simp] theorem State.cancelWake_rtxWork (s : State) : s.cancelWake.rtxWork = s.rtxWork := rfl
@[simp] theorem State.cancelWake_wakeWork (s : State) : s.cancelWake.wakeWork = s.wakeWork := rfl
@[simp] theorem State.cancelWake_rtxTimer (s : State) : s.cancelWake.rtxTimer = s.rtxTimer := rfl
@[simp] theorem State.cancelWake_wakeTimer (s : State) : s.cancelWake.wakeTimer = .idle := rfl
@[simp] theorem State.cancelWake_unrelQ (s : State) : s.cancelWake.unrelQ = s.unrelQ := rfl
@[simp] theorem State.cancelWake_relQ (s : State) : s.cancelWake.relQ = s.relQ := rfl
@[simp] theorem State.cancelWake_sentQ (s : State) : s.cancelWake.sentQ = s.sentQ := rfl
@[simp] theorem State.cancelWake_collector (s : State) : s.cancelWake.collector = s.collector := rfl
@[simp] theorem State.cancelWake_h4Collector (s : State) : s.cancelWake.h4Collector = s.h4Collector := rfl
@[simp] theorem State.cancelWake_phyTx (s : State) : s.cancelWake.phyTx = s.phyTx := rfl
@[simp] theorem State.cancelWake_upRx (s : State) : s.cancelWake.upRx = s.upRx := rfl
@[simp] theorem State.cancelWake_faults (s : State) : s.cancelWake.faults = s.faults := rfl
@[simp] theorem State.cancelWake_events (s : State) : s.cancelWake.events = s.events := rfl
@[simp] theorem State.cancelWake_allocDraws (s : State) : s.cancelWake.allocDraws = s.allocDraws := rfl
@[simp] theorem State.cancelWake_sinkDraws (s : State) : s.cancelWake.sinkDraws = s.sinkDraws := rfl
@[simp] theorem State.cancelWake_answer (s : State) : s.cancelWake.answer = s.answer := rfl
@[simp] theorem State.cancelWake_freeCount (s : State) : s.cancelWake.freeCount = s.freeCount := rfl

/-! ### State.pushUnrel -/

@[simp] theorem State.pushUnrel_params (s : State) (u : QUnit) : (s.pushUnrel u).params = s.params := rfl
@[simp] theorem State.pushUnrel_seq (s : State) (u : QUnit) : (s.pushUnrel u).seq = s.seq := rfl
@[simp] theorem State.pushUnrel_ack (s : State) (u : QUnit) : (s.pushUnrel u).ack = s.ack := rfl
@[simp] theorem State.pushUnrel_rack (s : State) (u : QUnit) : (s.pushUnrel u).rack = s.rack := rfl
@[simp] theorem State.pushUnrel_credit (s : State) (u : QUnit) : (s.pushUnrel u).credit = s.credit := rfl
@[simp] theorem State.pushUnrel_retryCount (s : State) (u : QUnit) : (s.pushUnrel u).retryCount = s.retryCount := rfl
@[simp] theorem State.pushUnrel_window (s : State) (u : QUnit) : (s.pushUnrel u).window = s.window := rfl
@[simp] theorem State.pushUnrel_useCrc (s : State) (u : QUnit) : (s.pushUnrel u).useCrc = s.useCrc := rfl
@[simp] theorem State.pushUnrel_swFlow (s : State) (u : QUnit) : (s.pushUnrel u).swFlow = s.swFlow := rfl
@[simp] theorem State.pushUnrel_cfgPeer (s : State) (u : QUnit) : (s.pushUnrel u).cfgPeer = s.cfgPeer := rfl
@[simp] theorem State.pushUnrel_localState (s : State) (u : QUnit) : (s.pushUnrel u).localState = s.localState := rfl
@[simp] theorem State.pushUnrel_peerState (s : State) (u : QUnit) : (s.pushUnrel u).peerState = s.peerState := rfl
@[simp] theorem State.pushUnrel_ackRequired (s : State) (u : QUnit) : (s.pushUnrel u).ackRequired = s.ackRequired := rfl
@[simp] theorem State.pushUnrel_wakeupPending (s : State) (u : QUnit) : (s.pushUnrel u).wakeupPending = s.wakeupPending := rfl
@[simp] theorem State.pushUnrel_guardWait (s : State) (u : QUnit) : (s.pushUnrel u).guardWait = s.guardWait := rfl
@[simp] theorem State.pushUnrel_workerScheduled (s : State) (u : QUnit) : (s.pushUnrel u).workerScheduled = s.workerScheduled := rfl
@[simp] theorem State.pushUnrel_alive (s : State) (u : QUnit) : (s.pushUnrel u).alive = s.alive := rfl
@[simp] theorem State.pushUnrel_halted (s : State) (u : QUnit) : (s.pushUnrel u).halted = s.halted := rfl
@[simp] theorem State.pushUnrel_rtxWork (s : State) (u : QUnit) : (s.pushUnrel u).rtxWork = s.rtxWork := rfl
@[simp] theorem State.pushUnrel_wakeWork (s : State) (u : QUnit) : (s.pushUnrel u).wakeWork = s.wakeWork := rfl
@[simp] theorem State.pushUnrel_rtxTimer (s : State) (u : QUnit) : (s.pushUnrel u).rtxTimer = s.rtxTimer := rfl
@[simp] theorem State.pushUnrel_wakeTimer (s : State) (u : QUnit) : (s.pushUnrel u).wakeTimer = s.wakeTimer := rfl
@[simp] theorem State.pushUnrel_unrelQ (s : State) (u : QUnit) : (s.pushUnrel u).unrelQ = s.unrelQ ++ [u] := rfl
@[simp] theorem State.pushUnrel_relQ (s : State) (u : QUnit) : (s.pushUnrel u).relQ = s.relQ := rfl
@[simp] theorem State.pushUnrel_sentQ (s : State) (u : QUnit) : (s.pushUnrel u).sentQ = s.sentQ := rfl
@[simp] theorem State.pushUnrel_collector (s : State) (u : QUnit) : (s.pushUnrel u).collector = s.collector := rfl
@[simp] theorem State.pushUnrel_h4Collector (s : State) (u : QUnit) : (s.pushUnrel u).h4Collector = s.h4Collector := rfl
@[simp] theorem State.pushUnrel_phyTx (s : State) (u : QUnit) : (s.pushUnrel u).phyTx = s.phyTx := rfl
@[simp] theorem State.pushUnrel_upRx (s : State) (u : QUnit) : (s.pushUnrel u).upRx = s.upRx := rfl
@[simp] theorem State.pushUnrel_faults (s : State) (u : QUnit) : (s.pushUnrel u).faults = s.faults := rfl
@[simp] theorem State.pushUnrel_events (s : State) (u : QUnit) : (s.pushUnrel u).events = s.events := rfl
@[simp] theorem State.pushUnrel_allocDraws (s : State) (u : QUnit) : (s.pushUnrel u).allocDraws = s.allocDraws := rfl
@[simp] theorem State.pushUnrel_sinkDraws (s : State) (u : QUnit) : (s.pushUnrel u).sinkDraws = s.sinkDraws := rfl
@[simp] theorem State.pushUnrel_answer (s : State) (u : QUnit) : (s.pushUnrel u).answer = s.answer := rfl
@[simp] theorem State.pushUnrel_freeCount (s : State) (u : QUnit) : (s.pushUnrel u).freeCount = s.freeCount := rfl

/-! ### State.pushRel -/

@[simp] theorem State.pushRel_params (s : State) (u : QUnit) : (s.pushRel u).params = s.params := rfl
@[simp] theorem State.pushRel_seq (s : State) (u : QUnit) : (s.pushRel u).seq = s.seq := rfl
@[simp] theorem State.pushRel_ack (s : State) (u : QUnit) : (s.pushRel u).ack = s.ack := rfl
@[simp] theorem State.pushRel_rack (s : State) (u : QUnit) : (s.pushRel u).rack = s.rack := rfl
@[simp] theorem State.pushRel_credit (s : State) (u : QUnit) : (s.pushRel u).credit = s.credit := rfl
@[simp] theorem State.pushRel_retryCount (s : State) (u : QUnit) : (s.pushRel u).retryCount = s.retryCount := rfl
@[simp] theorem State.pushRel_window (s : State) (u : QUnit) : (s.pushRel u).window = s.window := rfl
@[simp] theorem State.pushRel_useCrc (s : State) (u : QUnit) : (s.pushRel u).useCrc = s.useCrc := rfl
@[simp] theorem State.pushRel_swFlow (s : State) (u : QUnit) : (s.pushRel u).swFlow = s.swFlow := rfl
@[simp] theorem State.pushRel_cfgPeer (s : State) (u : QUnit) : (s.pushRel u).cfgPeer = s.cfgPeer := rfl
@[simp] theorem State.pushRel_localState (s : State) (u : QUnit) : (s.pushRel u).localState = s.localState := rfl
@[simp] theorem State.pushRel_peerState (s : State) (u : QUnit) : (s.pushRel u).peerState = s.peerState := rfl
@[simp] theorem State.pushRel_ackRequired (s : State) (u : QUnit) : (s.pushRel u).ackRequired = s.ackRequired := rfl
@[simp] theorem State.pushRel_wakeupPending (s : State) (u : QUnit) : (s.pushRel u).wakeupPending = s.wakeupPending := rfl
@[simp] theorem State.pushRel_guardWait (s : State) (u : QUnit) : (s.pushRel u).guardWait = s.guardWait := rfl
@[simp] theorem State.pushRel_workerScheduled (s : State) (u : QUnit) : (s.pushRel u).workerScheduled = s.workerScheduled := rfl
@[simp] theorem State.pushRel_alive (s : State) (u : QUnit) : (s.pushRel u).alive = s.alive := rfl
@[simp] theorem State.pushRel_halted (s : State) (u : QUnit) : (s.pushRel u).halted = s.halted := rfl
@[simp] theorem State.pushRel_rtxWork (s : State) (u : QUnit) : (s.pushRel u).rtxWork = s.rtxWork := rfl
@[simp] theorem State.pushRel_wakeWork (s : State) (u : QUnit) : (s.pushRel u).wakeWork = s.wakeWork := rfl
@[simp] theorem State.pushRel_rtxTimer (s : State) (u : QUnit) : (s.pushRel u).rtxTimer = s.rtxTimer := rfl
@[simp] theorem State.pushRel_wakeTimer (s : State) (u : QUnit) : (s.pushRel u).wakeTimer = s.wakeTimer := rfl
@[simp] theorem State.pushRel_unrelQ (s : State) (u : QUnit) : (s.pushRel u).unrelQ = s.unrelQ := rfl
@[simp] theorem State.pushRel_relQ (s : State) (u : QUnit) : (s.pushRel u).relQ = s.relQ ++ [u] := rfl
@[simp] theorem State.pushRel_sentQ (s : State) (u : QUnit) : (s.pushRel u).sentQ = s.sentQ := rfl
@[simp] theorem State.pushRel_collector (s : State) (u : QUnit) : (s.pushRel u).collector = s.collector := rfl
@[simp] theorem State.pushRel_h4Collector (s : State) (u : QUnit) : (s.pushRel u).h4Collector = s.h4Collector := rfl
@[simp] theorem State.pushRel_phyTx (s : State) (u : QUnit) : (s.pushRel u).phyTx = s.phyTx := rfl
@[simp] theorem State.pushRel_upRx (s : State) (u : QUnit) : (s.pushRel u).upRx = s.upRx := rfl
@[simp] theorem State.pushRel_faults (s : State) (u : QUnit) : (s.pushRel u).faults = s.faults := rfl
@[simp] theorem State.pushRel_events (s : State) (u : QUnit) : (s.pushRel u).events = s.events := rfl
@[simp] theorem State.pushRel_allocDraws (s : State) (u : QUnit) : (s.pushRel u).allocDraws = s.allocDraws := rfl
@[simp] theorem State.pushRel_sinkDraws (s : State) (u : QUnit) : (s.pushRel u).sinkDraws = s.sinkDraws := rfl
@[simp] theorem State.pushRel_answer (s : State) (u : QUnit) : (s.pushRel u).answer = s.answer := rfl
@[simp] theorem State.pushRel_freeCount (s : State) (u : QUnit) : (s.pushRel u).freeCount = s.freeCount := rfl

/-! ### State.emitUp -/

@[simp] theorem State.emitUp_params (s : State) (u : QUnit) : (s.emitUp u).params = s.params := rfl
@[simp] theorem State.emitUp_seq (s : State) (u : QUnit) : (s.emitUp u).seq = s.seq := rfl
@[simp] theorem State.emitUp_ack (s : State) (u : QUnit) : (s.emitUp u).ack = s.ack := rfl
@[simp] theorem State.emitUp_rack (s : State) (u : QUnit) : (s.emitUp u).rack = s.rack := rfl
@[simp] theorem State.emitUp_credit (s : State) (u : QUnit) : (s.emitUp u).credit = s.credit := rfl
@[simp] theorem State.emitUp_retryCount (s : State) (u : QUnit) : (s.emitUp u).retryCount = s.retryCount := rfl
@[simp] theorem State.emitUp_window (s : State) (u : QUnit) : (s.emitUp u).window = s.window := rfl
@[simp] theorem State.emitUp_useCrc (s : State) (u : QUnit) : (s.emitUp u).useCrc = s.useCrc := rfl
@[simp] theorem State.emitUp_swFlow (s : State) (u : QUnit) : (s.emitUp u).swFlow = s.swFlow := rfl
@[simp] theorem State.emitUp_cfgPeer (s : State) (u : QUnit) : (s.emitUp u).cfgPeer = s.cfgPeer := rfl
@[simp] theorem State.emitUp_localState (s : State) (u : QUnit) : (s.emitUp u).localState = s.localState := rfl
@[simp] theorem State.emitUp_peerState (s : State) (u : QUnit) : (s.emitUp u).peerState = s.peerState := rfl
@[simp] theorem State.emitUp_ackRequired (s : State) (u : QUnit) : (s.emitUp u).ackRequired = s.ackRequired := rfl
@[simp] theorem State.emitUp_wakeupPending (s : State) (u : QUnit) : (s.emitUp u).wakeupPending = s.wakeupPending := rfl
@[simp] theorem State.emitUp_guardWait (s : State) (u : QUnit) : (s.emitUp u).guardWait = s.guardWait := rfl
@[simp] theorem State.emitUp_workerScheduled (s : State) (u : QUnit) : (s.emitUp u).workerScheduled = s.workerScheduled := rfl
@[simp] theorem State.emitUp_alive (s : State) (u : QUnit) : (s.emitUp u).alive = s.alive := rfl
@[simp] theorem State.emitUp_halted (s : State) (u : QUnit) : (s.emitUp u).halted = s.halted := rfl
@[simp] theorem State.emitUp_rtxWork (s : State) (u : QUnit) : (s.emitUp u).rtxWork = s.rtxWork := rfl
@[simp] theorem State.emitUp_wakeWork (s : State) (u : QUnit) : (s.emitUp u).wakeWork = s.wakeWork := rfl
@[simp] theorem State.emitUp_rtxTimer (s : State) (u : QUnit) : (s.emitUp u).rtxTimer = s.rtxTimer := rfl
@[simp] theorem State.emitUp_wakeTimer (s : State) (u : QUnit) : (s.emitUp u).wakeTimer = s.wakeTimer := rfl
@[simp] theorem State.emitUp_unrelQ (s : State) (u : QUnit) : (s.emitUp u).unrelQ = s.unrelQ := rfl
@[simp] theorem State.emitUp_relQ (s : State) (u : QUnit) : (s.emitUp u).relQ = s.relQ := rfl
@[simp] theorem State.emitUp_sentQ (s : State) (u : QUnit) : (s.emitUp u).sentQ = s.sentQ := rfl
@[simp] theorem State.emitUp_collector (s : State) (u : QUnit) : (s.emitUp u).collector = s.collector := rfl
@[simp] theorem State.emitUp_h4Collector (s : State) (u : QUnit) : (s.emitUp u).h4Collector = s.h4Collector := rfl
@[simp] theorem State.emitUp_phyTx (s : State) (u : QUnit) : (s.emitUp u).phyTx = s.phyTx := rfl
@[simp] theorem State.emitUp_upRx (s : State) (u : QUnit) : (s.emitUp u).upRx = s.upRx ++ [u] := rfl
@[simp] theorem State.emitUp_faults (s : State) (u : QUnit) : (s.emitUp u).faults = s.faults := rfl
@[simp] theorem State.emitUp_events (s : State) (u : QUnit) : (s.emitUp u).events = s.events := rfl
@[simp] theorem State.emitUp_allocDraws (s : State) (u : QUnit) : (s.emitUp u).allocDraws = s.allocDraws := rfl
@[simp] theorem State.emitUp_sinkDraws (s : State) (u : QUnit) : (s.emitUp u).sinkDraws = s.sinkDraws := rfl
@[simp] theorem State.emitUp_answer (s : State) (u : QUnit) : (s.emitUp u).answer = s.answer := rfl
@[simp] theorem State.emitUp_freeCount (s : State) (u : QUnit) : (s.emitUp u).freeCount = s.freeCount := rfl

/-! ### State.dropAllocDraw -/

@[simp] theorem State.dropAllocDraw_params (s : State) : s.dropAllocDraw.params = s.params := rfl
@[simp] theorem State.dropAllocDraw_seq (s : State) : s.dropAllocDraw.seq = s.seq := rfl
@[simp] theorem State.dropAllocDraw_ack (s : State) : s.dropAllocDraw.ack = s.ack := rfl
@[simp] theorem State.dropAllocDraw_rack (s : State) : s.dropAllocDraw.rack = s.rack := rfl
@[simp] theorem State.dropAllocDraw_credit (s : State) : s.dropAllocDraw.credit = s.credit := rfl
@[simp] theorem State.dropAllocDraw_retryCount (s : State) : s.dropAllocDraw.retryCount = s.retryCount := rfl
@[simp] theorem State.dropAllocDraw_window (s : State) : s.dropAllocDraw.window = s.window := rfl
@[simp] theorem State.dropAllocDraw_useCrc (s : State) : s.dropAllocDraw.useCrc = s.useCrc := rfl
@[simp] theorem State.dropAllocDraw_swFlow (s : State) : s.dropAllocDraw.swFlow = s.swFlow := rfl
@[simp] theorem State.dropAllocDraw_cfgPeer (s : State) : s.dropAllocDraw.cfgPeer = s.cfgPeer := rfl
@[simp] theorem State.dropAllocDraw_localState (s : State) : s.dropAllocDraw.localState = s.localState := rfl
@[simp] theorem State.dropAllocDraw_peerState (s : State) : s.dropAllocDraw.peerState = s.peerState := rfl
@[simp] theorem State.dropAllocDraw_ackRequired (s : State) : s.dropAllocDraw.ackRequired = s.ackRequired := rfl
@[simp] theorem State.dropAllocDraw_wakeupPending (s : State) : s.dropAllocDraw.wakeupPending = s.wakeupPending := rfl
@[simp] theorem State.dropAllocDraw_guardWait (s : State) : s.dropAllocDraw.guardWait = s.guardWait := rfl
@[simp] theorem State.dropAllocDraw_workerScheduled (s : State) : s.dropAllocDraw.workerScheduled = s.workerScheduled := rfl
@[simp] theorem State.dropAllocDraw_alive (s : State) : s.dropAllocDraw.alive = s.alive := rfl
@[simp] theorem State.dropAllocDraw_halted (s : State) : s.dropAllocDraw.halted = s.halted := rfl
@[simp] theorem State.dropAllocDraw_rtxWork (s : State) : s.dropAllocDraw.rtxWork = s.rtxWork := rfl
@[simp] theorem State.dropAllocDraw_wakeWork (s : State) : s.dropAllocDraw.wakeWork = s.wakeWork := rfl
@[simp] theorem State.dropAllocDraw_rtxTimer (s : State) : s.dropAllocDraw.rtxTimer = s.rtxTimer := rfl
@[simp] theorem State.dropAllocDraw_wakeTimer (s : State) : s.dropAllocDraw.wakeTimer = s.wakeTimer := rfl
@[simp] theorem State.dropAllocDraw_unrelQ (s : State) : s.dropAllocDraw.unrelQ = s.unrelQ := rfl
@[simp] theorem State.dropAllocDraw_relQ (s : State) : s.dropAllocDraw.relQ = s.relQ := rfl
@[simp] theorem State.dropAllocDraw_sentQ (s : State) : s.dropAllocDraw.sentQ = s.sentQ := rfl
@[simp] theorem State.dropAllocDraw_collector (s : State) : s.dropAllocDraw.collector = s.collector := rfl
@[simp] theorem State.dropAllocDraw_h4Collector (s : State) : s.dropAllocDraw.h4Collector = s.h4Collector := rfl
@[simp] theorem State.dropAllocDraw_phyTx (s : State) : s.dropAllocDraw.phyTx = s.phyTx := rfl
@[simp] theorem State.dropAllocDraw_upRx (s : State) : s.dropAllocDraw.upRx = s.upRx := rfl
@[simp] theorem State.dropAllocDraw_faults (s : State) : s.dropAllocDraw.faults = s.faults := rfl
@[simp] theorem State.dropAllocDraw_events (s : State) : s.dropAllocDraw.events = s.events := rfl
@[simp] theorem State.dropAllocDraw_allocDraws (s : State) : s.dropAllocDraw.allocDraws = s.allocDraws.tail := rfl
@[simp] theorem State.dropAllocDraw_sinkDraws (s : State) : s.dropAllocDraw.sinkDraws = s.sinkDraws := rfl
@[simp] theorem State.dropAllocDraw_answer (s : State) : s.dropAllocDraw.answer = s.answer := rfl
@[simp] theorem State.dropAllocDraw_freeCount (s : State) : s.dropAllocDraw.freeCount = s.freeCount := rfl

/-! ### State.bumpSeq -/

@[simp] theorem State.bumpSeq_params (s : State) (r : Bool) : (s.bumpSeq r).params = s.params := rfl
@[simp] theorem State.bumpSeq_seq (s : State) (r : Bool) : (s.bumpSeq r).seq = if r then s.seq + 1 else s.seq := rfl
@[simp] theorem State.bumpSeq_ack (s : State) (r : Bool) : (s.bumpSeq r).ack = s.ack := rfl
@[simp] theorem State.bumpSeq_rack (s : State) (r : Bool) : (s.bumpSeq r).rack = s.rack := rfl
@[simp] theorem State.bumpSeq_credit (s : State) (r : Bool) : (s.bumpSeq r).credit = s.credit := rfl
@[simp] theorem State.bumpSeq_retryCount (s : State) (r : Bool) : (s.bumpSeq r).retryCount = s.retryCount := rfl
@[simp] theorem State.bumpSeq_window (s : State) (r : Bool) : (s.bumpSeq r).window = s.window := rfl
@[simp] theorem State.bumpSeq_useCrc (s : State) (r : Bool) : (s.bumpSeq r).useCrc = s.useCrc := rfl
@[simp] theorem State.bumpSeq_swFlow (s : State) (r : Bool) : (s.bumpSeq r).swFlow = s.swFlow := rfl
@[simp] theorem State.bumpSeq_cfgPeer (s : State) (r : Bool) : (s.bumpSeq r).cfgPeer = s.cfgPeer := rfl
@[simp] theorem State.bumpSeq_localState (s : State) (r : Bool) : (s.bumpSeq r).localState = s.localState := rfl
@[simp] theorem State.bumpSeq_peerState (s : State) (r : Bool) : (s.bumpSeq r).peerState = s.peerState := rfl
@[simp] theorem State.bumpSeq_ackRequired (s : State) (r : Bool) : (s.bumpSeq r).ackRequired = s.ackRequired := rfl
@[simp] theorem State.bumpSeq_wakeupPending (s : State) (r : Bool) : (s.bumpSeq r).wakeupPending = s.wakeupPending := rfl
@[simp] theorem State.bumpSeq_guardWait (s : State) (r : Bool) : (s.bumpSeq r).guardWait = s.guardWait := rfl
@[simp] theorem State.bumpSeq_workerScheduled (s : State) (r : Bool) : (s.bumpSeq r).workerScheduled = s.workerScheduled := rfl
@[simp] theorem State.bumpSeq_alive (s : State) (r : Bool) : (s.bumpSeq r).alive = s.alive := rfl
@[simp] theorem State.bumpSeq_halted (s : State) (r : Bool) : (s.bumpSeq r).halted = s.halted := rfl
@[simp] theorem State.bumpSeq_rtxWork (s : State) (r : Bool) : (s.bumpSeq r).rtxWork = s.rtxWork := rfl
@[simp] theorem State.bumpSeq_wakeWork (s : State) (r : Bool) : (s.bumpSeq r).wakeWork = s.wakeWork := rfl
@[simp] theorem State.bumpSeq_rtxTimer (s : State) (r : Bool) : (s.bumpSeq r).rtxTimer = s.rtxTimer := rfl
@[simp] theorem State.bumpSeq_wakeTimer (s : State) (r : Bool) : (s.bumpSeq r).wakeTimer = s.wakeTimer := rfl
@[simp] theorem State.bumpSeq_unrelQ (s : State) (r : Bool) : (s.bumpSeq r).unrelQ = s.unrelQ := rfl
@[simp] theorem State.bumpSeq_relQ (s : State) (r : Bool) : (s.bumpSeq r).relQ = s.relQ := rfl
@[simp] theorem State.bumpSeq_sentQ (s : State) (r : Bool) : (s.bumpSeq r).sentQ = s.sentQ := rfl
@[simp] theorem State.bumpSeq_collector (s : State) (r : Bool) : (s.bumpSeq r).collector = s.collector := rfl
@[simp] theorem State.bumpSeq_h4Collector (s : State) (r : Bool) : (s.bumpSeq r).h4Collector = s.h4Collector := rfl
@[simp] theorem State.bumpSeq_phyTx (s : State) (r : Bool) : (s.bumpSeq r).phyTx = s.phyTx := rfl
@[simp] theorem State.bumpSeq_upRx (s : State) (r : Bool) : (s.bumpSeq r).upRx = s.upRx := rfl
@[simp] theorem State.bumpSeq_faults (s : State) (r : Bool) : (s.bumpSeq r).faults = s.faults := rfl
@[simp] theorem State.bumpSeq_events (s : State) (r : Bool) : (s.bumpSeq r).events = s.events := rfl
@[simp] theorem State.bumpSeq_allocDraws (s : State) (r : Bool) : (s.bumpSeq r).allocDraws = s.allocDraws := rfl
@[simp] theorem State.bumpSeq_sinkDraws (s : State) (r : Bool) : (s.bumpSeq r).sinkDraws = s.sinkDraws := rfl
@[simp] theorem State.bumpSeq_answer (s : State) (r : Bool) : (s.bumpSeq r).answer = s.answer := rfl
@[simp] theorem State.bumpSeq_freeCount (s : State) (r : Bool) : (s.bumpSeq r).freeCount = s.freeCount := rfl

/-! ### State.popEvent -/

@[simp] theorem State.popEvent_params (s : State) : s.popEvent.params = s.params := rfl
@[simp] theorem State.popEvent_seq (s : State) : s.popEvent.seq = s.seq := rfl
@[simp] theorem State.popEvent_ack (s : State) : s.popEvent.ack = s.ack := rfl
@[simp] theorem State.popEvent_rack (s : State) : s.popEvent.rack = s.rack := rfl
@[simp] theorem State.popEvent_credit (s : State) : s.popEvent.credit = s.credit := rfl
@[simp] theorem State.popEvent_retryCount (s : State) : s.popEvent.retryCount = s.retryCount := rfl
@[simp] theorem State.popEvent_window (s : State) : s.popEvent.window = s.window := rfl
@[simp] theorem State.popEvent_useCrc (s : State) : s.popEvent.useCrc = s.useCrc := rfl
@[simp] theorem State.popEvent_swFlow (s : State) : s.popEvent.swFlow = s.swFlow := rfl
@[simp] theorem State.popEvent_cfgPeer (s : State) : s.popEvent.cfgPeer = s.cfgPeer := rfl
@[simp] theorem State.popEvent_localState (s : State) : s.popEvent.localState = s.localState := rfl
@[simp] theorem State.popEvent_peerState (s : State) : s.popEvent.peerState = s.peerState := rfl
@[simp] theorem State.popEvent_ackRequired (s : State) : s.popEvent.ackRequired = s.ackRequired := rfl
@[simp] theorem State.popEvent_wakeupPending (s : State) : s.popEvent.wakeupPending = s.wakeupPending := rfl
@[simp] theorem State.popEvent_guardWait (s : State) : s.popEvent.guardWait = s.guardWait := rfl
@[simp] theorem State.popEvent_workerScheduled (s : State) : s.popEvent.workerScheduled = s.workerScheduled := rfl
@[simp] theorem State.popEvent_alive (s : State) : s.popEvent.alive = s.alive := rfl
@[simp] theorem State.popEvent_halted (s : State) : s.popEvent.halted = s.halted := rfl
@[simp] theorem State.popEvent_rtxWork (s : State) : s.popEvent.rtxWork = s.rtxWork := rfl
@[simp] theorem State.popEvent_wakeWork (s : State) : s.popEvent.wakeWork = s.wakeWork := rfl
@[simp] theorem State.popEvent_rtxTimer (s : State) : s.popEvent.rtxTimer = s.rtxTimer := rfl
@[simp] theorem State.popEvent_wakeTimer (s : State) : s.popEvent.wakeTimer = s.wakeTimer := rfl
@[simp] theorem State.popEvent_unrelQ (s : State) : s.popEvent.unrelQ = s.unrelQ := rfl
@[simp] theorem State.popEvent_relQ (s : State) : s.popEvent.relQ = s.relQ := rfl
@[simp] theorem State.popEvent_sentQ (s : State) : s.popEvent.sentQ = s.sentQ := rfl
@[simp] theorem State.popEvent_collector (s : State) : s.popEvent.collector = s.collector := rfl
@[simp] theorem State.popEvent_h4Collector (s : State) : s.popEvent.h4Collector = s.h4Collector := rfl
@[simp] theorem State.popEvent_phyTx (s : State) : s.popEvent.phyTx = s.phyTx := rfl
@[simp] theorem State.popEvent_upRx (s : State) : s.popEvent.upRx = s.upRx := rfl
@[simp] theorem State.popEvent_faults (s : State) : s.popEvent.faults = s.faults := rfl
@[simp] theorem State.popEvent_events (s : State) : s.popEvent.events = s.events.tail := rfl
@[simp] theorem State.popEvent_allocDraws (s : State) : s.popEvent.allocDraws = s.allocDraws := rfl
@[simp] theorem State.popEvent_sinkDraws (s : State) : s.popEvent.sinkDraws = s.sinkDraws := rfl
@[simp] theorem State.popEvent_answer (s : State) : s.popEvent.answer = s.answer := rfl
@[simp] theorem State.popEvent_freeCount (s : State) : s.popEvent.freeCount = s.freeCount := rfl

/-! ### raiseFault -/

@[simp] theorem raiseFault_params (r : Report) (s : State) : (raiseFault r s).params = s.params := rfl
@[simp] theorem raiseFault_seq (r : Report) (s : State) : (raiseFault r s).seq = s.seq := rfl
@[simp] theorem raiseFault_ack (r : Report) (s : State) : (raiseFault r s).ack = s.ack := rfl
@[simp] theorem raiseFault_rack (r : Report) (s : State) : (raiseFault r s).rack = s.rack := rfl
@[simp] theorem raiseFault_credit (r : Report) (s : State) : (raiseFault r s).credit = s.credit := rfl
@[simp] theorem raiseFault_retryCount (r : Report) (s : State) : (raiseFault r s).retryCount = s.retryCount := rfl
@[simp] theorem raiseFault_window (r : Report) (s : State) : (raiseFault r s).window = s.window := rfl
@[simp] theorem raiseFault_useCrc (r : Report) (s : State) : (raiseFault r s).useCrc = s.useCrc := rfl
@[simp] theorem raiseFault_swFlow (r : Report) (s : State) : (raiseFault r s).swFlow = s.swFlow := rfl
@[simp] theorem raiseFault_cfgPeer (r : Report) (s : State) : (raiseFault r s).cfgPeer = s.cfgPeer := rfl
@[simp] theorem raiseFault_localState (r : Report) (s : State) : (raiseFault r s).localState = s.localState := rfl
@[simp] theorem raiseFault_peerState (r : Report) (s : State) : (raiseFault r s).peerState = s.peerState := rfl
@[simp] theorem raiseFault_ackRequired (r : Report) (s : State) : (raiseFault r s).ackRequired = s.ackRequired := rfl
@[simp] theorem raiseFault_wakeupPending (r : Report) (s : State) : (raiseFault r s).wakeupPending = s.wakeupPending := rfl
@[simp] theorem raiseFault_guardWait (r : Report) (s : State) : (raiseFault r s).guardWait = s.guardWait := rfl
@[simp] theorem raiseFault_workerScheduled (r : Report) (s : State) : (raiseFault r s).workerScheduled = s.workerScheduled := rfl
@[simp] theorem raiseFault_alive (r : Report) (s : State) : (raiseFault r s).alive = s.alive := rfl
@[simp] theorem raiseFault_halted (r : Report) (s : State) : (raiseFault r s).halted = (s.halted || fatal r) := rfl
@[simp] theorem raiseFault_rtxWork (r : Report) (s : State) : (raiseFault r s).rtxWork = s.rtxWork := rfl
@[simp] theorem raiseFault_wakeWork (r : Report) (s : State) : (raiseFault r s).wakeWork = s.wakeWork := rfl
@[simp] theorem raiseFault_rtxTimer (r : Report) (s : State) : (raiseFault r s).rtxTimer = s.rtxTimer := rfl
@[simp] theorem raiseFault_wakeTimer (r : Report) (s : State) : (raiseFault r s).wakeTimer = s.wakeTimer := rfl
@[simp] theorem raiseFault_unrelQ (r : Report) (s : State) : (raiseFault r s).unrelQ = s.unrelQ := rfl
@[simp] theorem raiseFault_relQ (r : Report) (s : State) : (raiseFault r s).relQ = s.relQ := rfl
@[simp] theorem raiseFault_sentQ (r : Report) (s : State) : (raiseFault r s).sentQ = s.sentQ := rfl
@[simp] theorem raiseFault_collector (r : Report) (s : State) : (raiseFault r s).collector = s.collector := rfl
@[simp] theorem raiseFault_h4Collector (r : Report) (s : State) : (raiseFault r s).h4Collector = s.h4Collector := rfl
@[simp] theorem raiseFault_phyTx (r : Report) (s : State) : (raiseFault r s).phyTx = s.phyTx := rfl
@[simp] theorem raiseFault_upRx (r : Report) (s : State) : (raiseFault r s).upRx = s.upRx := rfl
@[simp] theorem raiseFault_faults (r : Report) (s : State) : (raiseFault r s).faults = s.faults ++ [r] := rfl
@[simp] theorem raiseFault_events (r : Report) (s : State) : (raiseFault r s).events = s.events := rfl
@[simp] theorem raiseFault_allocDraws (r : Report) (s : State) : (raiseFault r s).allocDraws = s.allocDraws := rfl
@[simp] theorem raiseFault_sinkDraws (r : Report) (s : State) : (raiseFault r s).sinkDraws = s.sinkDraws := rfl
@[simp] theorem raiseFault_answer (r : Report) (s : State) : (raiseFault r s).answer = s.answer := rfl
@[simp] theorem raiseFault_freeCount (r : Report) (s : State) : (raiseFault r s).freeCount = s.freeCount := rfl

/-! ### raiseAllocs -/

@[simp] theorem raiseAllocs_params (n : Nat) (s : State) : (raiseAllocs n s).params = s.params := rfl
@[simp] theorem raiseAllocs_seq (n : Nat) (s : State) : (raiseAllocs n s).seq = s.seq := rfl
@[simp] theorem raiseAllocs_ack (n : Nat) (s : State) : (raiseAllocs n s).ack = s.ack := rfl
@[simp] theorem raiseAllocs_rack (n : Nat) (s : State) : (raiseAllocs n s).rack = s.rack := rfl
@[simp] theorem raiseAllocs_credit (n : Nat) (s : State) : (raiseAllocs n s).credit = s.credit := rfl
@[simp] theorem raiseAllocs_retryCount (n : Nat) (s : State) : (raiseAllocs n s).retryCount = s.retryCount := rfl
@[simp] theorem raiseAllocs_window (n : Nat) (s : State) : (raiseAllocs n s).window = s.window := rfl
@[simp] theorem raiseAllocs_useCrc (n : Nat) (s : State) : (raiseAllocs n s).useCrc = s.useCrc := rfl
@[simp] theorem raiseAllocs_swFlow (n : Nat) (s : State) : (raiseAllocs n s).swFlow = s.swFlow := rfl
@[simp] theorem raiseAllocs_cfgPeer (n : Nat) (s : State) : (raiseAllocs n s).cfgPeer = s.cfgPeer := rfl
@[simp] theorem raiseAllocs_localState (n : Nat) (s : State) : (raiseAllocs n s).localState = s.localState := rfl
@[simp] theorem raiseAllocs_peerState (n : Nat) (s : State) : (raiseAllocs n s).peerState = s.peerState := rfl
@[simp] theorem raiseAllocs_ackRequired (n : Nat) (s : State) : (raiseAllocs n s).ackRequired = s.ackRequired := rfl
@[simp] theorem raiseAllocs_wakeupPending (n : Nat) (s : State) : (raiseAllocs n s).wakeupPending = s.wakeupPending := rfl
@[simp] theorem raiseAllocs_guardWait (n : Nat) (s : State) : (raiseAllocs n s).guardWait = s.guardWait := rfl
@[simp] theorem raiseAllocs_workerScheduled (n : Nat) (s : State) : (raiseAllocs n s).workerScheduled = s.workerScheduled := rfl
@[simp] theorem raiseAllocs_alive (n : Nat) (s : State) : (raiseAllocs n s).alive = s.alive := rfl
@[simp] theorem raiseAllocs_halted (n : Nat) (s : State) : (raiseAllocs n s).halted = s.halted := rfl
@[simp] theorem raiseAllocs_rtxWork (n : Nat) (s : State) : (raiseAllocs n s).rtxWork = s.rtxWork := rfl
@[simp] theorem raiseAllocs_wakeWork (n : Nat) (s : State) : (raiseAllocs n s).wakeWork = s.wakeWork := rfl
@[simp] theorem raiseAllocs_rtxTimer (n : Nat) (s : State) : (raiseAllocs n s).rtxTimer = s.rtxTimer := rfl
@[simp] theorem raiseAllocs_wakeTimer (n : Nat) (s : State) : (raiseAllocs n s).wakeTimer = s.wakeTimer := rfl
@[simp] theorem raiseAllocs_unrelQ (n : Nat) (s : State) : (raiseAllocs n s).unrelQ = s.unrelQ := rfl
@[simp] theorem raiseAllocs_relQ (n : Nat) (s : State) : (raiseAllocs n s).relQ = s.relQ := rfl
@[simp] theorem raiseAllocs_sentQ (n : Nat) (s : State) : (raiseAllocs n s).sentQ = s.sentQ := rfl
@[simp] theorem raiseAllocs_collector (n : Nat) (s : State) : (raiseAllocs n s).collector = s.collector := rfl
@[simp] theorem raiseAllocs_h4Collector (n : Nat) (s : State) : (raiseAllocs n s).h4Collector = s.h4Collector := rfl
@[simp] theorem raiseAllocs_phyTx (n : Nat) (s : State) : (raiseAllocs n s).phyTx = s.phyTx := rfl
@[simp] theorem raiseAllocs_upRx (n : Nat) (s : State) : (raiseAllocs n s).upRx = s.upRx := rfl
@[simp] theorem raiseAllocs_faults (n : Nat) (s : State) : (raiseAllocs n s).faults = s.faults ++ List.replicate n .alloc := rfl
@[simp] theorem raiseAllocs_events (n : Nat) (s : State) : (raiseAllocs n s).events = s.events := rfl
@[simp] theorem raiseAllocs_allocDraws (n : Nat) (s : State) : (raiseAllocs n s).allocDraws = s.allocDraws := rfl
@[simp] theorem raiseAllocs_sinkDraws (n : Nat) (s : State) : (raiseAllocs n s).sinkDraws = s.sinkDraws := rfl
@[simp] theorem raiseAllocs_answer (n : Nat) (s : State) : (raiseAllocs n s).answer = s.answer := rfl
@[simp] theorem raiseAllocs_freeCount (n : Nat) (s : State) : (raiseAllocs n s).freeCount = s.freeCount := rfl

/-! ### linkSend -/

@[simp] theorem linkSend_params (m : LcName) (c : Option Byte) (s : State) : (linkSend m c s).params = s.params := rfl
@[simp] theorem linkSend_seq (m : LcName) (c : Option Byte) (s : State) : (linkSend m c s).seq = s.seq := rfl
@[simp] theorem linkSend_ack (m : LcName) (c : Option Byte) (s : State) : (linkSend m c s).ack = s.ack := rfl
@[simp] theorem linkSend_rack (m : LcName) (c : Option Byte) (s : State) : (linkSend m c s).rack = s.rack := rfl
@[simp] theorem linkSend_credit (m : LcName) (c : Option Byte) (s : State) : (linkSend m c s).credit = s.credit := rfl
@[simp] theorem linkSend_retryCount (m : LcName) (c : Option Byte) (s : State) : (linkSend m c s).retryCount = s.retryCount := rfl
@[simp] theorem linkSend_window (m : LcName) (c : Option Byte) (s : State) : (linkSend m c s).window = s.window := rfl
@[simp] theorem linkSend_useCrc (m : LcName) (c : Option Byte) (s : State) : (linkSend m c s).useCrc = s.useCrc := rfl
@[simp] theorem linkSend_swFlow (m : LcName) (c : Option Byte) (s : State) : (linkSend m c s).swFlow = s.swFlow := rfl
@[simp] theorem linkSend_cfgPeer (m : LcName) (c : Option Byte) (s : State) : (linkSend m c s).cfgPeer = s.cfgPeer := rfl
@[simp] theorem linkSend_localState (m : LcName) (c : Option Byte) (s : State) : (linkSend m c s).localState = s.localState := rfl
@[simp] theorem linkSend_peerState (m : LcName) (c : Option Byte) (s : State) : (linkSend m c s).peerState = s.peerState := rfl
@[simp] theorem linkSend_ackRequired (m : LcName) (c : Option Byte) (s : State) : (linkSend m c s).ackRequired = s.ackRequired := rfl
@[simp] theorem linkSend_wakeupPending (m : LcName) (c : Option Byte) (s : State) : (linkSend m c s).wakeupPending = s.wakeupPending := rfl
@[simp] theorem linkSend_guardWait (m : LcName) (c : Option Byte) (s : State) : (linkSend m c s).guardWait = s.guardWait := rfl
@[simp] theorem linkSend_workerScheduled (m : LcName) (c : Option Byte) (s : State) : (linkSend m c s).workerScheduled = true := rfl
@[simp] theorem linkSend_alive (m : LcName) (c : Option Byte) (s : State) : (linkSend m c s).alive = s.alive := rfl
@[simp] theorem linkSend_halted (m : LcName) (c : Option Byte) (s : State) : (linkSend m c s).halted = s.halted := rfl
@[simp] theorem linkSend_rtxWork (m : LcName) (c : Option Byte) (s : State) : (linkSend m c s).rtxWork = s.rtxWork := rfl
@[simp] theorem linkSend_wakeWork (m : LcName) (c : Option Byte) (s : State) : (linkSend m c s).wakeWork = s.wakeWork := rfl
@[simp] theorem linkSend_rtxTimer (m : LcName) (c : Option Byte) (s : State) : (linkSend m c s).rtxTimer = s.rtxTimer := rfl
@[simp] theorem linkSend_wakeTimer (m : LcName) (c : Option Byte) (s : State) : (linkSend m c s).wakeTimer = s.wakeTimer := rfl
@[simp] theorem linkSend_unrelQ (m : LcName) (c : Option Byte) (s : State) : (linkSend m c s).unrelQ = s.unrelQ ++ [⟨.link, lcPayload m (c.map cfgSent)⟩] := rfl
@[simp] theorem linkSend_relQ (m : LcName) (c : Option Byte) (s : State) : (linkSend m c s).relQ = s.relQ := rfl
@[simp] theorem linkSend_sentQ (m : LcName) (c : Option Byte) (s : State) : (linkSend m c s).sentQ = s.sentQ := rfl
@[simp] theorem linkSend_collector (m : LcName) (c : Option Byte) (s : State) : (linkSend m c s).collector = s.collector := rfl
@[simp] theorem linkSend_h4Collector (m : LcName) (c : Option Byte) (s : State) : (linkSend m c s).h4Collector = s.h4Collector := rfl
@[simp] theorem linkSend_phyTx (m : LcName) (c : Option Byte) (s : State) : (linkSend m c s).phyTx = s.phyTx := rfl
@[simp] theorem linkSend_upRx (m : LcName) (c : Option Byte) (s : State) : (linkSend m c s).upRx = s.upRx := rfl
@[simp] theorem linkSend_faults (m : LcName) (c : Option Byte) (s : State) : (linkSend m c s).faults = s.faults := rfl
@[simp] theorem linkSend_events (m : LcName) (c : Option Byte) (s : State) : (linkSend m c s).events = s.events := rfl
@[simp] theorem linkSend_allocDraws (m : LcName) (c : Option Byte) (s : State) : (linkSend m c s).allocDraws = s.allocDraws := rfl
@[simp] theorem linkSend_sinkDraws (m : LcName) (c : Option Byte) (s : State) : (linkSend m c s).sinkDraws = s.sinkDraws := rfl
@[simp] theorem linkSend_answer (m : LcName) (c : Option Byte) (s : State) : (linkSend m c s).answer = s.answer := rfl
@[simp] theorem linkSend_freeCount (m : LcName) (c : Option Byte) (s : State) : (linkSend m c s).freeCount = s.freeCount := rfl

/-! ### arqReload -/

@[simp] theorem arqReload_params (s : State) : (arqReload s).params = s.params := rfl
@[simp] theorem arqReload_seq (s : State) : (arqReload s).seq = s.seq - BitVec.ofNat 3 s.sentQ.length := rfl
@[simp] theorem arqReload_ack (s : State) : (arqReload s).ack = s.ack := rfl
@[simp] theorem arqReload_rack (s : State) : (arqReload s).rack = s.rack := rfl
@[simp] theorem arqReload_credit (s : State) : (arqReload s).credit = s.window := rfl
@[simp] theorem arqReload_retryCount (s : State) : (arqReload s).retryCount = s.retryCount := rfl
@[simp] theorem arqReload_window (s : State) : (arqReload s).window = s.window := rfl
@[simp] theorem arqReload_useCrc (s : State) : (arqReload s).useCrc = s.useCrc := rfl
@[simp] theorem arqReload_swFlow (s : State) : (arqReload s).swFlow = s.swFlow := rfl
@[simp] theorem arqReload_cfgPeer (s : State) : (arqReload s).cfgPeer = s.cfgPeer := rfl
@[simp] theorem arqReload_localState (s : State) : (arqReload s).localState = s.localState := rfl
@[simp] theorem arqReload_peerState (s : State) : (arqReload s).peerState = s.peerState := rfl
@[simp] theorem arqReload_ackRequired (s : State) : (arqReload s).ackRequired = s.ackRequired := rfl
@[simp] theorem arqReload_wakeupPending (s : State) : (arqReload s).wakeupPending = s.wakeupPending := rfl
@[simp] theorem arqReload_guardWait (s : State) : (arqReload s).guardWait = s.guardWait := rfl
@[simp] theorem arqReload_workerScheduled (s : State) : (arqReload s).workerScheduled = true := rfl
@[simp] theorem arqReload_alive (s : State) : (arqReload s).alive = s.alive := rfl
@[simp] theorem arqReload_halted (s : State) : (arqReload s).halted = s.halted := rfl
@[simp] theorem arqReload_rtxWork (s : State) : (arqReload s).rtxWork = s.rtxWork := rfl
@[simp] theorem arqReload_wakeWork (s : State) : (arqReload s).wakeWork = s.wakeWork := rfl
@[simp] theorem arqReload_rtxTimer (s : State) : (arqReload s).rtxTimer = .idle := rfl
@[simp] theorem arqReload_wakeTimer (s : State) : (arqReload s).wakeTimer = s.wakeTimer := rfl
@[simp] theorem arqReload_unrelQ (s : State) : (arqReload s).unrelQ = s.unrelQ := rfl
@[simp] theorem arqReload_relQ (s : State) : (arqReload s).relQ = s.sentQ ++ s.relQ := rfl
@[simp] theorem arqReload_sentQ (s : State) : (arqReload s).sentQ = [] := rfl
@[simp] theorem arqReload_collector (s : State) : (arqReload s).collector = s.collector := rfl
@[simp] theorem arqReload_h4Collector (s : State) : (arqReload s).h4Collector = s.h4Collector := rfl
@[simp] theorem arqReload_phyTx (s : State) : (arqReload s).phyTx = s.phyTx := rfl
@[simp] theorem arqReload_upRx (s : State) : (arqReload s).upRx = s.upRx := rfl
@[simp] theorem arqReload_faults (s : State) : (arqReload s).faults = s.faults := rfl
@[simp] theorem arqReload_events (s : State) : (arqReload s).events = s.events := rfl
@[simp] theorem arqReload_allocDraws (s : State) : (arqReload s).allocDraws = s.allocDraws := rfl
@[simp] theorem arqReload_sinkDraws (s : State) : (arqReload s).sinkDraws = s.sinkDraws := rfl
@[simp] theorem arqReload_answer (s : State) : (arqReload s).answer = s.answer := rfl
@[simp] theorem arqReload_freeCount (s : State) : (arqReload s).freeCount = s.freeCount := rfl

/-! ### enterActive -/

@[simp] theorem enterActive_params (s : State) : (enterActive s).params = s.params := rfl
@[simp] theorem enterActive_seq (s : State) : (enterActive s).seq = 0 := rfl
@[simp] theorem enterActive_ack (s : State) : (enterActive s).ack = 0 := rfl
@[simp] theorem enterActive_rack (s : State) : (enterActive s).rack = 0 := rfl
@[simp] theorem enterActive_credit (s : State) : (enterActive s).credit = s.windowToCommit := rfl
@[simp] theorem enterActive_retryCount (s : State) : (enterActive s).retryCount = 0 := rfl
@[simp] theorem enterActive_window (s : State) : (enterActive s).window = s.windowToCommit := rfl
@[simp] theorem enterActive_useCrc (s : State) : (enterActive s).useCrc = s.crcToCommit := rfl
@[simp] theorem enterActive_swFlow (s : State) : (enterActive s).swFlow = s.flowToCommit := rfl
@[simp] theorem enterActive_cfgPeer (s : State) : (enterActive s).cfgPeer = s.cfgPeer := rfl
@[simp] theorem enterActive_localState (s : State) : (enterActive s).localState = .active := rfl
@[simp] theorem enterActive_peerState (s : State) : (enterActive s).peerState = s.peerState := rfl
@[simp] theorem enterActive_ackRequired (s : State) : (enterActive s).ackRequired = false := rfl
@[simp] theorem enterActive_wakeupPending (s : State) : (enterActive s).wakeupPending = s.wakeupPending := rfl
@[simp] theorem enterActive_guardWait (s : State) : (enterActive s).guardWait = s.guardWait := rfl
@[simp] theorem enterActive_workerScheduled (s : State) : (enterActive s).workerScheduled = true := rfl
@[simp] theorem enterActive_alive (s : State) : (enterActive s).alive = s.alive := rfl
@[simp] theorem enterActive_halted (s : State) : (enterActive s).halted = s.halted := rfl
@[simp] theorem enterActive_rtxWork (s : State) : (enterActive s).rtxWork = s.rtxWork := rfl
@[simp] theorem enterActive_wakeWork (s : State) : (enterActive s).wakeWork = s.wakeWork := rfl
@[simp] theorem enterActive_rtxTimer (s : State) : (enterActive s).rtxTimer = s.rtxTimer := rfl
@[simp] theorem enterActive_wakeTimer (s : State) : (enterActive s).wakeTimer = s.wakeTimer := rfl
@[simp] theorem enterActive_unrelQ (s : State) : (enterActive s).unrelQ = s.unrelQ := rfl
@[simp] theorem enterActive_relQ (s : State) : (enterActive s).relQ = s.relQ := rfl
@[simp] theorem enterActive_sentQ (s : State) : (enterActive s).sentQ = s.sentQ := rfl
@[simp] theorem enterActive_collector (s : State) : (enterActive s).collector = s.collector := rfl
@[simp] theorem enterActive_h4Collector (s : State) : (enterActive s).h4Collector = s.h4Collector := rfl
@[simp] theorem enterActive_phyTx (s : State) : (enterActive s).phyTx = s.phyTx := rfl
@[simp] theorem enterActive_upRx (s : State) : (enterActive s).upRx = s.upRx := rfl
@[simp] theorem enterActive_faults (s : State) : (enterActive s).faults = s.faults := rfl
@[simp] theorem enterActive_events (s : State) : (enterActive s).events = s.events := rfl
@[simp] theorem enterActive_allocDraws (s : State) : (enterActive s).allocDraws = s.allocDraws := rfl
@[simp] theorem enterActive_sinkDraws (s : State) : (enterActive s).sinkDraws = s.sinkDraws := rfl
@[simp] theorem enterActive_answer (s : State) : (enterActive s).answer = s.answer := rfl
@[simp] theorem enterActive_freeCount (s : State) : (enterActive s).freeCount = s.freeCount := rfl

/-! ### acceptSeq -/

@[simp] theorem acceptSeq_params (s : State) : (acceptSeq s).params = s.params := rfl
@[simp] theorem acceptSeq_seq (s : State) : (acceptSeq s).seq = s.seq := rfl
@[simp] theorem acceptSeq_ack (s : State) : (acceptSeq s).ack = s.ack + 1 := rfl
@[simp] theorem acceptSeq_rack (s : State) : (acceptSeq s).rack = s.rack := rfl
@[simp] theorem acceptSeq_credit (s : State) : (acceptSeq s).credit = s.credit := rfl
@[simp] theorem acceptSeq_retryCount (s : State) : (acceptSeq s).retryCount = s.retryCount := rfl
@[simp] theorem acceptSeq_window (s : State) : (acceptSeq s).window = s.window := rfl
@[simp] theorem acceptSeq_useCrc (s : State) : (acceptSeq s).useCrc = s.useCrc := rfl
@[simp] theorem acceptSeq_swFlow (s : State) : (acceptSeq s).swFlow = s.swFlow := rfl
@[simp] theorem acceptSeq_cfgPeer (s : State) : (acceptSeq s).cfgPeer = s.cfgPeer := rfl
@[simp] theorem acceptSeq_localState (s : State) : (acceptSeq s).localState = s.localState := rfl
@[simp] theorem acceptSeq_peerState (s : State) : (acceptSeq s).peerState = s.peerState := rfl
@[simp] theorem acceptSeq_ackRequired (s : State) : (acceptSeq s).ackRequired = true := rfl
@[simp] theorem acceptSeq_wakeupPending (s : State) : (acceptSeq s).wakeupPending = s.wakeupPending := rfl
@[simp] theorem acceptSeq_guardWait (s : State) : (acceptSeq s).guardWait = s.guardWait := rfl
@[simp] theorem acceptSeq_workerScheduled (s : State) : (acceptSeq s).workerScheduled = true := rfl
@[simp] theorem acceptSeq_alive (s : State) : (acceptSeq s).alive = s.alive := rfl
@[simp] theorem acceptSeq_halted (s : State) : (acceptSeq s).halted = s.halted := rfl
@[simp] theorem acceptSeq_rtxWork (s : State) : (acceptSeq s).rtxWork = s.rtxWork := rfl
@[simp] theorem acceptSeq_wakeWork (s : State) : (acceptSeq s).wakeWork = s.wakeWork := rfl
@[simp] theorem acceptSeq_rtxTimer (s : State) : (acceptSeq s).rtxTimer = s.rtxTimer := rfl
@[simp] theorem acceptSeq_wakeTimer (s : State) : (acceptSeq s).wakeTimer = s.wakeTimer := rfl
@[simp] theorem acceptSeq_unrelQ (s : State) : (acceptSeq s).unrelQ = s.unrelQ := rfl
@[simp] theorem acceptSeq_relQ (s : State) : (acceptSeq s).relQ = s.relQ := rfl
@[simp] theorem acceptSeq_sentQ (s : State) : (acceptSeq s).sentQ = s.sentQ := rfl
@[simp] theorem acceptSeq_collector (s : State) : (acceptSeq s).collector = s.collector := rfl
@[simp] theorem acceptSeq_h4Collector (s : State) : (acceptSeq s).h4Collector = s.h4Collector := rfl
@[simp] theorem acceptSeq_phyTx (s : State) : (acceptSeq s).phyTx = s.phyTx := rfl
@[simp] theorem acceptSeq_upRx (s : State) : (acceptSeq s).upRx = s.upRx := rfl
@[simp] theorem acceptSeq_faults (s : State) : (acceptSeq s).faults = s.faults := rfl
@[simp] theorem acceptSeq_events (s : State) : (acceptSeq s).events = s.events := rfl
@[simp] theorem acceptSeq_allocDraws (s : State) : (acceptSeq s).allocDraws = s.allocDraws := rfl
@[simp] theorem acceptSeq_sinkDraws (s : State) : (acceptSeq s).sinkDraws = s.sinkDraws := rfl
@[simp] theorem acceptSeq_answer (s : State) : (acceptSeq s).answer = s.answer := rfl
@[simp] theorem acceptSeq_freeCount (s : State) : (acceptSeq s).freeCount = s.freeCount := rfl

/-! ### acknowledge -/

@[simp] theorem acknowledge_params (k : Nat) (a : Count3) (s : State) : (acknowledge k a s).params = s.params := rfl
@[simp] theorem acknowledge_seq (k : Nat) (a : Count3) (s : State) : (acknowledge k a s).seq = s.seq := rfl
@[simp] theorem acknowledge_ack (k : Nat) (a : Count3) (s : State) : (acknowledge k a s).ack = s.ack := rfl
@[simp] theorem acknowledge_rack (k : Nat) (a : Count3) (s : State) : (acknowledge k a s).rack = a := rfl
@[simp] theorem acknowledge_credit (k : Nat) (a : Count3) (s : State) : (acknowledge k a s).credit = s.credit + k := rfl
@[simp] theorem acknowledge_retryCount (k : Nat) (a : Count3) (s : State) : (acknowledge k a s).retryCount = if 0 < k then 0 else s.retryCount := rfl
@[simp] theorem acknowledge_window (k : Nat) (a : Count3) (s : State) : (acknowledge k a s).window = s.window := rfl
@[simp] theorem acknowledge_useCrc (k : Nat) (a : Count3) (s : State) : (acknowledge k a s).useCrc = s.useCrc := rfl
@[simp] theorem acknowledge_swFlow (k : Nat) (a : Count3) (s : State) : (acknowledge k a s).swFlow = s.swFlow := rfl
@[simp] theorem acknowledge_cfgPeer (k : Nat) (a : Count3) (s : State) : (acknowledge k a s).cfgPeer = s.cfgPeer := rfl
@[simp] theorem acknowledge_localState (k : Nat) (a : Count3) (s : State) : (acknowledge k a s).localState = s.localState := rfl
@[simp] theorem acknowledge_peerState (k : Nat) (a : Count3) (s : State) : (acknowledge k a s).peerState = s.peerState := rfl
@[simp] theorem acknowledge_ackRequired (k : Nat) (a : Count3) (s : State) : (acknowledge k a s).ackRequired = s.ackRequired := rfl
@[simp] theorem acknowledge_wakeupPending (k : Nat) (a : Count3) (s : State) : (acknowledge k a s).wakeupPending = s.wakeupPending := rfl
@[simp] theorem acknowledge_guardWait (k : Nat) (a : Count3) (s : State) : (acknowledge k a s).guardWait = s.guardWait := rfl
@[simp] theorem acknowledge_workerScheduled (k : Nat) (a : Count3) (s : State) : (acknowledge k a s).workerScheduled = (s.workerScheduled || decide (0 < k)) := rfl
@[simp] theorem acknowledge_alive (k : Nat) (a : Count3) (s : State) : (acknowledge k a s).alive = s.alive := rfl
@[simp] theorem acknowledge_halted (k : Nat) (a : Count3) (s : State) : (acknowledge k a s).halted = s.halted := rfl
@[simp] theorem acknowledge_rtxWork (k : Nat) (a : Count3) (s : State) : (acknowledge k a s).rtxWork = s.rtxWork := rfl
@[simp] theorem acknowledge_wakeWork (k : Nat) (a : Count3) (s : State) : (acknowledge k a s).wakeWork = s.wakeWork := rfl
@[simp] theorem acknowledge_rtxTimer (k : Nat) (a : Count3) (s : State) : (acknowledge k a s).rtxTimer = s.rtxTimer := rfl
@[simp] theorem acknowledge_wakeTimer (k : Nat) (a : Count3) (s : State) : (acknowledge k a s).wakeTimer = s.wakeTimer := rfl
@[simp] theorem acknowledge_unrelQ (k : Nat) (a : Count3) (s : State) : (acknowledge k a s).unrelQ = s.unrelQ := rfl
@[simp] theorem acknowledge_relQ (k : Nat) (a : Count3) (s : State) : (acknowledge k a s).relQ = s.relQ := rfl
@[simp] theorem acknowledge_sentQ (k : Nat) (a : Count3) (s : State) : (acknowledge k a s).sentQ = s.sentQ.drop k := rfl
@[simp] theorem acknowledge_collector (k : Nat) (a : Count3) (s : State) : (acknowledge k a s).collector = s.collector := rfl
@[simp] theorem acknowledge_h4Collector (k : Nat) (a : Count3) (s : State) : (acknowledge k a s).h4Collector = s.h4Collector := rfl
@[simp] theorem acknowledge_phyTx (k : Nat) (a : Count3) (s : State) : (acknowledge k a s).phyTx = s.phyTx := rfl
@[simp] theorem acknowledge_upRx (k : Nat) (a : Count3) (s : State) : (acknowledge k a s).upRx = s.upRx := rfl
@[simp] theorem acknowledge_faults (k : Nat) (a : Count3) (s : State) : (acknowledge k a s).faults = s.faults := rfl
@[simp] theorem acknowledge_events (k : Nat) (a : Count3) (s : State) : (acknowledge k a s).events = s.events := rfl
@[simp] theorem acknowledge_allocDraws (k : Nat) (a : Count3) (s : State) : (acknowledge k a s).allocDraws = s.allocDraws := rfl
@[simp] theorem acknowledge_sinkDraws (k : Nat) (a : Count3) (s : State) : (acknowledge k a s).sinkDraws = s.sinkDraws := rfl
@[simp] theorem acknowledge_answer (k : Nat) (a : Count3) (s : State) : (acknowledge k a s).answer = s.answer := rfl
@[simp] theorem acknowledge_freeCount (k : Nat) (a : Count3) (s : State) : (acknowledge k a s).freeCount = s.freeCount := rfl

/-! ### State.withH4 -/

@[simp] theorem State.withH4_params (s : State) (c : Bytes) : (s.withH4 c).params = s.params := rfl
@[simp] theorem State.withH4_seq (s : State) (c : Bytes) : (s.withH4 c).seq = s.seq := rfl
@[simp] theorem State.withH4_ack (s : State) (c : Bytes) : (s.withH4 c).ack = s.ack := rfl
@[simp] theorem State.withH4_rack (s : State) (c : Bytes) : (s.withH4 c).rack = s.rack := rfl
@[simp] theorem State.withH4_credit (s : State) (c : Bytes) : (s.withH4 c).credit = s.credit := rfl
@[simp] theorem State.withH4_retryCount (s : State) (c : Bytes) : (s.withH4 c).retryCount = s.retryCount := rfl
@[simp] theorem State.withH4_window (s : State) (c : Bytes) : (s.withH4 c).window = s.window := rfl
@[simp] theorem State.withH4_useCrc (s : State) (c : Bytes) : (s.withH4 c).useCrc = s.useCrc := rfl
@[simp] theorem State.withH4_swFlow (s : State) (c : Bytes) : (s.withH4 c).swFlow = s.swFlow := rfl
@[simp] theorem State.withH4_cfgPeer (s : State) (c : Bytes) : (s.withH4 c).cfgPeer = s.cfgPeer := rfl
@[simp] theorem State.withH4_localState (s : State) (c : Bytes) : (s.withH4 c).localState = s.localState := rfl
@[simp] theorem State.withH4_peerState (s : State) (c : Bytes) : (s.withH4 c).peerState = s.peerState := rfl
@[simp] theorem State.withH4_ackRequired (s : State) (c : Bytes) : (s.withH4 c).ackRequired = s.ackRequired := rfl
@[simp] theorem State.withH4_wakeupPending (s : State) (c : Bytes) : (s.withH4 c).wakeupPending = s.wakeupPending := rfl
@[simp] theorem State.withH4_guardWait (s : State) (c : Bytes) : (s.withH4 c).guardWait = s.guardWait := rfl
@[simp] theorem State.withH4_workerScheduled (s : State) (c : Bytes) : (s.withH4 c).workerScheduled = s.workerScheduled := rfl
@[simp] theorem State.withH4_alive (s : State) (c : Bytes) : (s.withH4 c).alive = s.alive := rfl
@[simp] theorem State.withH4_halted (s : State) (c : Bytes) : (s.withH4 c).halted = s.halted := rfl
@[simp] theorem State.withH4_rtxWork (s : State) (c : Bytes) : (s.withH4 c).rtxWork = s.rtxWork := rfl
@[simp] theorem State.withH4_wakeWork (s : State) (c : Bytes) : (s.withH4 c).wakeWork = s.wakeWork := rfl
@[simp] theorem State.withH4_rtxTimer (s : State) (c : Bytes) : (s.withH4 c).rtxTimer = s.rtxTimer := rfl
@[simp] theorem State.withH4_wakeTimer (s : State) (c : Bytes) : (s.withH4 c).wakeTimer = s.wakeTimer := rfl
@[simp] theorem State.withH4_unrelQ (s : State) (c : Bytes) : (s.withH4 c).unrelQ = s.unrelQ := rfl
@[simp] theorem State.withH4_relQ (s : State) (c : Bytes) : (s.withH4 c).relQ = s.relQ := rfl
@[simp] theorem State.withH4_sentQ (s : State) (c : Bytes) : (s.withH4 c).sentQ = s.sentQ := rfl
@[simp] theorem State.withH4_collector (s : State) (c : Bytes) : (s.withH4 c).collector = s.collector := rfl
@[simp] theorem State.withH4_h4Collector (s : State) (c : Bytes) : (s.withH4 c).h4Collector = c := rfl
@[simp] theorem State.withH4_phyTx (s : State) (c : Bytes) : (s.withH4 c).phyTx = s.phyTx := rfl
@[simp] theorem State.withH4_upRx (s : State) (c : Bytes) : (s.withH4 c).upRx = s.upRx := rfl
@[simp] theorem State.withH4_faults (s : State) (c : Bytes) : (s.withH4 c).faults = s.faults := rfl
@[simp] theorem State.withH4_events (s : State) (c : Bytes) : (s.withH4 c).events = s.events := rfl
@[simp] theorem State.withH4_allocDraws (s : State) (c : Bytes) : (s.withH4 c).allocDraws = s.allocDraws := rfl
@[simp] theorem State.withH4_sinkDraws (s : State) (c : Bytes) : (s.withH4 c).sinkDraws = s.sinkDraws := rfl
@[simp] theorem State.withH4_answer (s : State) (c : Bytes) : (s.withH4 c).answer = s.answer := rfl
@[simp] theorem State.withH4_freeCount (s : State) (c : Bytes) : (s.withH4 c).freeCount = s.freeCount := rfl

/-! ### rtxFire -/

@[simp] theorem rtxFire_params (s : State) : (rtxFire s).params = s.params := rfl
@[simp] theorem rtxFire_seq (s : State) : (rtxFire s).seq = s.seq := rfl
@[simp] theorem rtxFire_ack (s : State) : (rtxFire s).ack = s.ack := rfl
@[simp] theorem rtxFire_rack (s : State) : (rtxFire s).rack = s.rack := rfl
@[simp] theorem rtxFire_credit (s : State) : (rtxFire s).credit = s.credit := rfl
@[simp] theorem rtxFire_retryCount (s : State) : (rtxFire s).retryCount = s.retryCount := rfl
@[simp] theorem rtxFire_window (s : State) : (rtxFire s).window = s.window := rfl
@[simp] theorem rtxFire_useCrc (s : State) : (rtxFire s).useCrc = s.useCrc := rfl
@[simp] theorem rtxFire_swFlow (s : State) : (rtxFire s).swFlow = s.swFlow := rfl
@[simp] theorem rtxFire_cfgPeer (s : State) : (rtxFire s).cfgPeer = s.cfgPeer := rfl
@[simp] theorem rtxFire_localState (s : State) : (rtxFire s).localState = s.localState := rfl
@[simp] theorem rtxFire_peerState (s : State) : (rtxFire s).peerState = s.peerState := rfl
@[simp] theorem rtxFire_ackRequired (s : State) : (rtxFire s).ackRequired = s.ackRequired := rfl
@[simp] theorem rtxFire_wakeupPending (s : State) : (rtxFire s).wakeupPending = s.wakeupPending := rfl
@[simp] theorem rtxFire_guardWait (s : State) : (rtxFire s).guardWait = s.guardWait := rfl
@[simp] theorem rtxFire_workerScheduled (s : State) : (rtxFire s).workerScheduled = s.workerScheduled := rfl
@[simp] theorem rtxFire_alive (s : State) : (rtxFire s).alive = s.alive := rfl
@[simp] theorem rtxFire_halted (s : State) : (rtxFire s).halted = s.halted := rfl
@[simp] theorem rtxFire_rtxWork (s : State) : (rtxFire s).rtxWork = true := rfl
@[simp] theorem rtxFire_wakeWork (s : State) : (rtxFire s).wakeWork = s.wakeWork := rfl
@[simp] theorem rtxFire_rtxTimer (s : State) : (rtxFire s).rtxTimer = .idle := rfl
@[simp] theorem rtxFire_wakeTimer (s : State) : (rtxFire s).wakeTimer = s.wakeTimer := rfl
@[simp] theorem rtxFire_unrelQ (s : State) : (rtxFire s).unrelQ = s.unrelQ := rfl
@[simp] theorem rtxFire_relQ (s : State) : (rtxFire s).relQ = s.relQ := rfl
@[simp] theorem rtxFire_sentQ (s : State) : (rtxFire s).sentQ = s.sentQ := rfl
@[simp] theorem rtxFire_collector (s : State) : (rtxFire s).collector = s.collector := rfl
@[simp] theorem rtxFire_h4Collector (s : State) : (rtxFire s).h4Collector = s.h4Collector := rfl
@[simp] theorem rtxFire_phyTx (s : State) : (rtxFire s).phyTx = s.phyTx := rfl
@[simp] theorem rtxFire_upRx (s : State) : (rtxFire s).upRx = s.upRx := rfl
@[simp] theorem rtxFire_faults (s : State) : (rtxFire s).faults = s.faults := rfl
@[simp] theorem rtxFire_events (s : State) : (rtxFire s).events = s.events := rfl
@[simp] theorem rtxFire_allocDraws (s : State) : (rtxFire s).allocDraws = s.allocDraws := rfl
@[simp] theorem rtxFire_sinkDraws (s : State) : (rtxFire s).sinkDraws = s.sinkDraws := rfl
@[simp] theorem rtxFire_answer (s : State) : (rtxFire s).answer = s.answer := rfl
@[simp] theorem rtxFire_freeCount (s : State) : (rtxFire s).freeCount = s.freeCount := rfl

/-! ### wakeFire -/

@[simp] theorem wakeFire_params (s : State) : (wakeFire s).params = s.params := rfl
@[simp] theorem wakeFire_seq (s : State) : (wakeFire s).seq = s.seq := rfl
@[simp] theorem wakeFire_ack (s : State) : (wakeFire s).ack = s.ack := rfl
@[simp] theorem wakeFire_rack (s : State) : (wakeFire s).rack = s.rack := rfl
@[simp] theorem wakeFire_credit (s : State) : (wakeFire s).credit = s.credit := rfl
@[simp] theorem wakeFire_retryCount (s : State) : (wakeFire s).retryCount = s.retryCount := rfl
@[simp] theorem wakeFire_window (s : State) : (wakeFire s).window = s.window := rfl
@[simp] theorem wakeFire_useCrc (s : State) : (wakeFire s).useCrc = s.useCrc := rfl
@[simp] theorem wakeFire_swFlow (s : State) : (wakeFire s).swFlow = s.swFlow := rfl
@[simp] theorem wakeFire_cfgPeer (s : State) : (wakeFire s).cfgPeer = s.cfgPeer := rfl
@[simp] theorem wakeFire_localState (s : State) : (wakeFire s).localState = s.localState := rfl
@[simp] theorem wakeFire_peerState (s : State) : (wakeFire s).peerState = s.peerState := rfl
@[simp] theorem wakeFire_ackRequired (s : State) : (wakeFire s).ackRequired = s.ackRequired := rfl
@[simp] theorem wakeFire_wakeupPending (s : State) : (wakeFire s).wakeupPending = s.wakeupPending := rfl
@[simp] theorem wakeFire_guardWait (s : State) : (wakeFire s).guardWait = s.guardWait := rfl
@[simp] theorem wakeFire_workerScheduled (s : State) : (wakeFire s).workerScheduled = s.workerScheduled := rfl
@[simp] theorem wakeFire_alive (s : State) : (wakeFire s).alive = s.alive := rfl
@[simp] theorem wakeFire_halted (s : State) : (wakeFire s).halted = s.halted := rfl
@[simp] theorem wakeFire_rtxWork (s : State) : (wakeFire s).rtxWork = s.rtxWork := rfl
@[simp] theorem wakeFire_wakeWork (s : State) : (wakeFire s).wakeWork = true := rfl
@[simp] theorem wakeFire_rtxTimer (s : State) : (wakeFire s).rtxTimer = s.rtxTimer := rfl
@[simp] theorem wakeFire_wakeTimer (s : State) : (wakeFire s).wakeTimer = .idle := rfl
@[simp] theorem wakeFire_unrelQ (s : State) : (wakeFire s).unrelQ = s.unrelQ := rfl
@[simp] theorem wakeFire_relQ (s : State) : (wakeFire s).relQ = s.relQ := rfl
@[simp] theorem wakeFire_sentQ (s : State) : (wakeFire s).sentQ = s.sentQ := rfl
@[simp] theorem wakeFire_collector (s : State) : (wakeFire s).collector = s.collector := rfl
@[simp] theorem wakeFire_h4Collector (s : State) : (wakeFire s).h4Collector = s.h4Collector := rfl
@[simp] theorem wakeFire_phyTx (s : State) : (wakeFire s).phyTx = s.phyTx := rfl
@[simp] theorem wakeFire_upRx (s : State) : (wakeFire s).upRx = s.upRx := rfl
@[simp] theorem wakeFire_faults (s : State) : (wakeFire s).faults = s.faults := rfl
@[simp] theorem wakeFire_events (s : State) : (wakeFire s).events = s.events := rfl
@[simp] theorem wakeFire_allocDraws (s : State) : (wakeFire s).allocDraws = s.allocDraws := rfl
@[simp] theorem wakeFire_sinkDraws (s : State) : (wakeFire s).sinkDraws = s.sinkDraws := rfl
@[simp] theorem wakeFire_answer (s : State) : (wakeFire s).answer = s.answer := rfl
@[simp] theorem wakeFire_freeCount (s : State) : (wakeFire s).freeCount = s.freeCount := rfl

/-! ### State.initWith -/

@[simp] theorem State.initWith_params (p : Params) (s : State) : (s.initWith p).params = p := rfl
@[simp] theorem State.initWith_seq (p : Params) (s : State) : (s.initWith p).seq = 0 := rfl
@[simp] theorem State.initWith_ack (p : Params) (s : State) : (s.initWith p).ack = 0 := rfl
@[simp] theorem State.initWith_rack (p : Params) (s : State) : (s.initWith p).rack = 0 := rfl
@[simp] theorem State.initWith_credit (p : Params) (s : State) : (s.initWith p).credit = p.w0 := rfl
@[simp] theorem State.initWith_retryCount (p : Params) (s : State) : (s.initWith p).retryCount = 0 := rfl
@[simp] theorem State.initWith_window (p : Params) (s : State) : (s.initWith p).window = p.w0 := rfl
@[simp] theorem State.initWith_useCrc (p : Params) (s : State) : (s.initWith p).useCrc = p.c0 := rfl
@[simp] theorem State.initWith_swFlow (p : Params) (s : State) : (s.initWith p).swFlow = p.f0 := rfl
@[simp] theorem State.initWith_cfgPeer (p : Params) (s : State) : (s.initWith p).cfgPeer = none := rfl
@[simp] theorem State.initWith_localState (p : Params) (s : State) : (s.initWith p).localState = .uninitialized := rfl
@[simp] theorem State.initWith_peerState (p : Params) (s : State) : (s.initWith p).peerState = .uninitialized := rfl
@[simp] theorem State.initWith_ackRequired (p : Params) (s : State) : (s.initWith p).ackRequired = false := rfl
@[simp] theorem State.initWith_wakeupPending (p : Params) (s : State) : (s.initWith p).wakeupPending = false := rfl
@[simp] theorem State.initWith_guardWait (p : Params) (s : State) : (s.initWith p).guardWait = false := rfl
@[simp] theorem State.initWith_workerScheduled (p : Params) (s : State) : (s.initWith p).workerScheduled = false := rfl
@[simp] theorem State.initWith_alive (p : Params) (s : State) : (s.initWith p).alive = true := rfl
@[simp] theorem State.initWith_halted (p : Params) (s : State) : (s.initWith p).halted = false := rfl
@[simp] theorem State.initWith_rtxWork (p : Params) (s : State) : (s.initWith p).rtxWork = false := rfl
@[simp] theorem State.initWith_wakeWork (p : Params) (s : State) : (s.initWith p).wakeWork = false := rfl
@[simp] theorem State.initWith_rtxTimer (p : Params) (s : State) : (s.initWith p).rtxTimer = .armed := rfl
@[simp] theorem State.initWith_wakeTimer (p : Params) (s : State) : (s.initWith p).wakeTimer = .idle := rfl
@[simp] theorem State.initWith_unrelQ (p : Params) (s : State) : (s.initWith p).unrelQ = [] := rfl
@[simp] theorem State.initWith_relQ (p : Params) (s : State) : (s.initWith p).relQ = [] := rfl
@[simp] theorem State.initWith_sentQ (p : Params) (s : State) : (s.initWith p).sentQ = [] := rfl
@[simp] theorem State.initWith_collector (p : Params) (s : State) : (s.initWith p).collector = none := rfl
@[simp] theorem State.initWith_h4Collector (p : Params) (s : State) : (s.initWith p).h4Collector = [] := rfl
@[simp] theorem State.initWith_phyTx (p : Params) (s : State) : (s.initWith p).phyTx = s.phyTx := rfl
@[simp] theorem State.initWith_upRx (p : Params) (s : State) : (s.initWith p).upRx = s.upRx := rfl
@[simp] theorem State.initWith_faults (p : Params) (s : State) : (s.initWith p).faults = s.faults := rfl
@[simp] theorem State.initWith_events (p : Params) (s : State) : (s.initWith p).events = s.events := rfl
@[simp] theorem State.initWith_allocDraws (p : Params) (s : State) : (s.initWith p).allocDraws = s.allocDraws := rfl
@[simp] theorem State.initWith_sinkDraws (p : Params) (s : State) : (s.initWith p).sinkDraws = s.sinkDraws := rfl
@[simp] theorem State.initWith_answer (p : Params) (s : State) : (s.initWith p).answer = s.answer := rfl
@[simp] theorem State.initWith_freeCount (p : Params) (s : State) : (s.initWith p).freeCount = s.freeCount := rfl

/-! ### State.teardown -/

@[simp] theorem State.teardown_params (s : State) : s.teardown.params = s.params := rfl
@[simp] theorem State.teardown_seq (s : State) : s.teardown.seq = (Config.unspecified s.freeCount).seq := rfl
@[simp] theorem State.teardown_ack (s : State) : s.teardown.ack = (Config.unspecified s.freeCount).ack := rfl
@[simp] theorem State.teardown_rack (s : State) : s.teardown.rack = (Config.unspecified s.freeCount).rack := rfl
@[simp] theorem State.teardown_credit (s : State) : s.teardown.credit = (Config.unspecified s.freeCount).credit.val := rfl
@[simp] theorem State.teardown_retryCount (s : State) : s.teardown.retryCount = (Config.unspecified s.freeCount).retryCount := rfl
@[simp] theorem State.teardown_window (s : State) : s.teardown.window = (Config.unspecified s.freeCount).windowPred.val + 1 := rfl
@[simp] theorem State.teardown_useCrc (s : State) : s.teardown.useCrc = (Config.unspecified s.freeCount).useCrc := rfl
@[simp] theorem State.teardown_swFlow (s : State) : s.teardown.swFlow = (Config.unspecified s.freeCount).swFlow := rfl
@[simp] theorem State.teardown_cfgPeer (s : State) : s.teardown.cfgPeer = (Config.unspecified s.freeCount).cfgPeer := rfl
@[simp] theorem State.teardown_localState (s : State) : s.teardown.localState = (Config.unspecified s.freeCount).localState := rfl
@[simp] theorem State.teardown_peerState (s : State) : s.teardown.peerState = (Config.unspecified s.freeCount).peerState := rfl
@[simp] theorem State.teardown_ackRequired (s : State) : s.teardown.ackRequired = (Config.unspecified s.freeCount).ackRequired := rfl
@[simp] theorem State.teardown_wakeupPending (s : State) : s.teardown.wakeupPending = (Config.unspecified s.freeCount).wakeupPending := rfl
@[simp] theorem State.teardown_guardWait (s : State) : s.teardown.guardWait = (Config.unspecified s.freeCount).guardWait := rfl
@[simp] theorem State.teardown_workerScheduled (s : State) : s.teardown.workerScheduled = false := rfl
@[simp] theorem State.teardown_alive (s : State) : s.teardown.alive = false := rfl
@[simp] theorem State.teardown_halted (s : State) : s.teardown.halted = (Config.unspecified s.freeCount).halted := rfl
@[simp] theorem State.teardown_rtxWork (s : State) : s.teardown.rtxWork = false := rfl
@[simp] theorem State.teardown_wakeWork (s : State) : s.teardown.wakeWork = false := rfl
@[simp] theorem State.teardown_rtxTimer (s : State) : s.teardown.rtxTimer = .idle := rfl
@[simp] theorem State.teardown_wakeTimer (s : State) : s.teardown.wakeTimer = .idle := rfl
@[simp] theorem State.teardown_unrelQ (s : State) : s.teardown.unrelQ = [] := rfl
@[simp] theorem State.teardown_relQ (s : State) : s.teardown.relQ = [] := rfl
@[simp] theorem State.teardown_sentQ (s : State) : s.teardown.sentQ = [] := rfl
@[simp] theorem State.teardown_collector (s : State) : s.teardown.collector = none := rfl
@[simp] theorem State.teardown_h4Collector (s : State) : s.teardown.h4Collector = [] := rfl
@[simp] theorem State.teardown_phyTx (s : State) : s.teardown.phyTx = s.phyTx := rfl
@[simp] theorem State.teardown_upRx (s : State) : s.teardown.upRx = s.upRx := rfl
@[simp] theorem State.teardown_faults (s : State) : s.teardown.faults = s.faults := rfl
@[simp] theorem State.teardown_events (s : State) : s.teardown.events = s.events := rfl
@[simp] theorem State.teardown_allocDraws (s : State) : s.teardown.allocDraws = s.allocDraws := rfl
@[simp] theorem State.teardown_sinkDraws (s : State) : s.teardown.sinkDraws = s.sinkDraws := rfl
@[simp] theorem State.teardown_answer (s : State) : s.teardown.answer = s.answer := rfl
@[simp] theorem State.teardown_freeCount (s : State) : s.teardown.freeCount = s.freeCount + 1 := rfl

end Sys2Proof.Machine
end

