-- ==== Sys2Proof/Laws/Collect.lean ====
section
/-! SUPPORT. Everything SLIP.COLLECT and RX.BYTES can do: what a scan leaves, how a scan of two runs is put together, and
that the collector keeps its form. -/

namespace Sys2Proof.Machine

/-! ### The counts a scan adds -/

/-- `n` more bytes consumed and `k` more failed draws. -/
def Collected.more (c : Collected) (n k : Nat) : Collected :=
  { c with consumed := c.consumed + n, fails := c.fails + k }

@[simp] theorem Collected.more_zero (c : Collected) : c.more 0 0 = c := rfl
@[simp] theorem Collected.more_more (c : Collected) (n k m j : Nat) :
    (c.more n k).more m j = c.more (n + m) (k + j) := by simp [Collected.more, Nat.add_assoc]
theorem Collected.eat_eq (c : Collected) : c.eat = c.more 1 0 := rfl
theorem Collected.eatFail_eq (c : Collected) : c.eatFail = c.more 1 1 := rfl
@[simp] theorem Collected.more_buf (c : Collected) (n k : Nat) : (c.more n k).buf = c.buf := rfl
@[simp] theorem Collected.more_rest (c : Collected) (n k : Nat) : (c.more n k).rest = c.rest := rfl
@[simp] theorem Collected.more_consumed (c : Collected) (n k : Nat) : (c.more n k).consumed = c.consumed + n := rfl
@[simp] theorem Collected.more_completed (c : Collected) (n k : Nat) : (c.more n k).completed = c.completed := rfl
@[simp] theorem Collected.more_draws (c : Collected) (n k : Nat) : (c.more n k).draws = c.draws := rfl
@[simp] theorem Collected.more_fails (c : Collected) (n k : Nat) : (c.more n k).fails = c.fails + k := rfl

/-! ### One byte -/

/-- Everything one byte can do in a scan (R202, R204): it ends the frame, or the scan goes on after it. -/
theorem slipCollect_cons (ds : List Bool) (buf : Option Bytes) (b : Byte) (bs : Bytes) :
    (∃ f, buf = some f ∧ b = Config.slipEnd ∧ f.length ≠ 1 ∧
      slipCollect ds buf (b :: bs) = ⟨some (f ++ [Config.slipEnd]), bs, 1, true, ds, 0⟩) ∨
    (∃ ds' buf' k, ds' <:+ ds ∧ (∀ bs', slipCollect ds buf (b :: bs') = (slipCollect ds' buf' bs').more 1 k) ∧
      (collectorOk buf → collectorOk buf')) := by
  cases buf with
  | none =>
    right
    by_cases hb : b = Config.slipEnd
    · exact ⟨ds, some [Config.slipEnd], 0, List.suffix_refl _, fun bs' => by simp [slipCollect, hb, Collected.eat_eq],
        fun _ => ⟨[], rfl, by simp⟩⟩
    · exact ⟨ds, none, 0, List.suffix_refl _, fun bs' => by simp [slipCollect, hb, Collected.eat_eq], fun h => h⟩
  | some f =>
    by_cases hb : b = Config.slipEnd
    · by_cases hf : f.length = 1
      · right
        exact ⟨ds, some f, 0, List.suffix_refl _, fun bs' => by simp [slipCollect, hb, hf, Collected.eat_eq], fun h => h⟩
      · left; exact ⟨f, rfl, hb, hf, by simp [slipCollect, hb, hf]⟩
    · right
      have keep : collectorOk (some f) → collectorOk (some (f ++ [b])) := by
        rintro ⟨body, rfl, h⟩
        exact ⟨body ++ [b], rfl, by simp [h, Ne.symm hb]⟩
      cases ds with
      | nil =>
        exact ⟨[], some (f ++ [b]), 0, List.suffix_refl _, fun bs' => by simp [slipCollect, hb, Collected.eat_eq], keep⟩
      | cons d ds =>
        cases d with
        | true =>
          exact ⟨ds, some (f ++ [b]), 0, List.suffix_cons _ _, fun bs' => by simp [slipCollect, hb, Collected.eat_eq],
            keep⟩
        | false =>
          exact ⟨ds, none, 1, List.suffix_cons _ _, fun bs' => by simp [slipCollect, hb, Collected.eatFail_eq],
            fun _ => trivial⟩

/-! ### What a scan leaves -/

/-- Everything a scan can leave (R202): it consumed all but `rest`; unless it completed a frame it consumed
everything, and the collector keeps its form; a completed frame is a sentinel, a body without sentinel, a sentinel. -/
theorem slipCollect_spec (ds : List Bool) (buf : Option Bytes) (bs : Bytes) :
    (slipCollect ds buf bs).consumed + (slipCollect ds buf bs).rest.length = bs.length ∧
    (slipCollect ds buf bs).draws <:+ ds ∧
    ((slipCollect ds buf bs).completed = false → (slipCollect ds buf bs).rest = []) ∧
    ((slipCollect ds buf bs).completed = true → (slipCollect ds buf bs).rest.length < bs.length) ∧
    (collectorOk buf → (slipCollect ds buf bs).completed = false → collectorOk (slipCollect ds buf bs).buf) ∧
    (collectorOk buf → (slipCollect ds buf bs).completed = true →
      ∃ body, body ≠ [] ∧ Config.slipEnd ∉ body ∧
        (slipCollect ds buf bs).buf = some (Config.slipEnd :: (body ++ [Config.slipEnd]))) := by
  induction bs generalizing ds buf with
  | nil => simp [slipCollect]
  | cons b bs ih =>
    rcases slipCollect_cons ds buf b bs with ⟨f, rfl, rfl, hf, h⟩ | ⟨ds', buf', k, hs, h, hk⟩
    · rw [h]
      refine ⟨by simp [Nat.add_comm], List.suffix_refl _, by simp, by simp, by simp, ?_⟩
      rintro ⟨body, rfl, hb⟩ -
      exact ⟨body, by rintro rfl; simp at hf, hb, by simp⟩
    · obtain ⟨h1, h2, h3, h4, h5, h6⟩ := ih ds' buf'
      rw [h bs]
      refine ⟨by simp only [Collected.more_consumed, Collected.more_rest, List.length_cons]; omega,
        h2.trans hs, h3, fun hc => by have := h4 hc; simp only [Collected.more_rest, List.length_cons]; omega,
        fun ho => h5 (hk ho), fun ho => h6 (hk ho)⟩

/-- A scan of two runs, where the first does not complete a frame, is the scan of the second from where the first left
off (R94, R202). -/
theorem slipCollect_append_open (ds : List Bool) (buf : Option Bytes) (a b : Bytes)
    (h : (slipCollect ds buf a).completed = false) :
    slipCollect ds buf (a ++ b) =
      (slipCollect (slipCollect ds buf a).draws (slipCollect ds buf a).buf b).more
        (slipCollect ds buf a).consumed (slipCollect ds buf a).fails := by
  induction a generalizing ds buf with
  | nil => simp [slipCollect]
  | cons x a ih =>
    rcases slipCollect_cons ds buf x a with ⟨f, rfl, rfl, hf, hx⟩ | ⟨ds', buf', k, -, hx, -⟩
    · rw [hx] at h; simp at h
    · rw [hx] at h
      rw [List.cons_append, hx, hx, ih ds' buf' h]
      simp

/-- A scan of two runs, where the first completes a frame, stops where the scan of the first stops (R202). -/
theorem slipCollect_append_done (ds : List Bool) (buf : Option Bytes) (a b : Bytes)
    (h : (slipCollect ds buf a).completed = true) :
    slipCollect ds buf (a ++ b) = { slipCollect ds buf a with rest := (slipCollect ds buf a).rest ++ b } := by
  induction a generalizing ds buf with
  | nil => simp [slipCollect] at h
  | cons x a ih =>
    rcases slipCollect_cons ds buf x a with ⟨f, rfl, rfl, hf, hx⟩ | ⟨ds', buf', k, -, hx, -⟩
    · rw [hx]; simp [slipCollect, hf]
    · rw [hx] at h
      rw [List.cons_append, hx, hx, ih ds' buf' h]
      rfl

/-! ### Scans with every allocation succeeding -/

/-- Bytes before the first sentinel are consumed and dropped (R202). -/
theorem slipCollect_garbage (ds : List Bool) (g bs : Bytes) (hg : Config.slipEnd ∉ g) :
    slipCollect ds none (g ++ bs) = (slipCollect ds none bs).more g.length 0 := by
  induction g with
  | nil => rfl
  | cons b g ih =>
    simp only [List.mem_cons, not_or] at hg
    have h1 : slipCollect ds none (b :: (g ++ bs)) = (slipCollect ds none (g ++ bs)).eat := by
      simp [slipCollect, Ne.symm hg.1]
    rw [List.cons_append, h1, ih hg.2, Collected.eat_eq, Collected.more_more, List.length_cons]

/-- Consecutive sentinels are one start sentinel (R202). -/
theorem slipCollect_sentinels (ds : List Bool) (n : Nat) (bs : Bytes) :
    slipCollect ds (some [Config.slipEnd]) (List.replicate n Config.slipEnd ++ bs) =
      (slipCollect ds (some [Config.slipEnd]) bs).more n 0 := by
  induction n with
  | zero => rfl
  | succ n ih =>
    have h1 : ∀ xs, slipCollect ds (some [Config.slipEnd]) (Config.slipEnd :: xs) =
        (slipCollect ds (some [Config.slipEnd]) xs).eat := fun xs => by simp [slipCollect]
    rw [List.replicate_succ, List.cons_append, h1, ih, Collected.eat_eq, Collected.more_more]

/-- Bytes inside a frame are appended, one draw each (R202, R105). -/
theorem slipCollect_body (ds : List Bool) (f x bs : Bytes) (hx : Config.slipEnd ∉ x) (hd : ∀ d ∈ ds, d = true) :
    slipCollect ds (some f) (x ++ bs) = (slipCollect (ds.drop x.length) (some (f ++ x)) bs).more x.length 0 := by
  induction x generalizing ds f with
  | nil => simp
  | cons b x ih =>
    simp only [List.mem_cons, not_or] at hx
    rw [List.cons_append]
    cases ds with
    | nil =>
      have h1 : slipCollect [] (some f) (b :: (x ++ bs)) = (slipCollect [] (some (f ++ [b])) (x ++ bs)).eat := by
        simp [slipCollect, Ne.symm hx.1]
      rw [h1, ih [] (f ++ [b]) hx.2 (by simp), Collected.eat_eq, Collected.more_more]
      simp
    | cons d ds =>
      obtain rfl : d = true := hd d (by simp)
      have h1 : slipCollect (true :: ds) (some f) (b :: (x ++ bs)) =
          (slipCollect ds (some (f ++ [b])) (x ++ bs)).eat := by simp [slipCollect, Ne.symm hx.1]
      rw [h1, ih ds (f ++ [b]) hx.2 (fun d hm => hd d (List.mem_cons_of_mem _ hm)), Collected.eat_eq, Collected.more_more]
      simp

/-! ### RX.BYTES -/

/-- One turn of RX.BYTES' loop in a state that is not halted (R396). -/
theorem rxLoop_succ (fuel : Nat) (b : Byte) (bs : Bytes) (s : State) (h : s.halted = false) :
    rxLoop (fuel + 1) (b :: bs) s =
      if (slipCollect s.allocDraws s.collector (b :: bs)).completed then
        rxLoop fuel (slipCollect s.allocDraws s.collector (b :: bs)).rest
          (rxFrame (slipDecode ((slipCollect s.allocDraws s.collector (b :: bs)).buf.getD []))
            { s.afterScan (slipCollect s.allocDraws s.collector (b :: bs)) with collector := none })
      else
        { s.afterScan (slipCollect s.allocDraws s.collector (b :: bs)) with
          collector := (slipCollect s.allocDraws s.collector (b :: bs)).buf } := by
  rw [rxLoop, if_neg (by simp [h])]; rfl

/-- A halted block takes no more of the run (R396, R447). -/
theorem rxLoop_halted (fuel : Nat) (bs : Bytes) (s : State) (h : s.halted = true) : rxLoop fuel bs s = s := by
  cases fuel <;> cases bs <;> simp [rxLoop, h]

/-- Any two counts of turns that reach the end of the run agree. -/
theorem rxLoop_fuel (n m : Nat) (bs : Bytes) (s : State) (hn : bs.length ≤ n) (hm : bs.length ≤ m) :
    rxLoop n bs s = rxLoop m bs s := by
  induction n generalizing m bs s with
  | zero =>
    obtain rfl : bs = [] := List.length_eq_zero_iff.mp (by omega)
    cases m <;> simp [rxLoop]
  | succ n ih =>
    cases bs with
    | nil => cases m <;> simp [rxLoop]
    | cons b bs =>
      cases m with
      | zero => simp at hm
      | succ m =>
        by_cases h : s.halted = true
        · rw [rxLoop_halted _ _ _ h, rxLoop_halted _ _ _ h]
        · simp only [Bool.not_eq_true] at h
          rw [rxLoop_succ _ _ _ _ h, rxLoop_succ _ _ _ _ h]
          split
          · rename_i hc
            have := (slipCollect_spec s.allocDraws s.collector (b :: bs)).2.2.2.1 hc
            simp only [List.length_cons] at hn hm this
            exact ih _ _ _ (by omega) (by omega)
          · rfl

end Sys2Proof.Machine
end

