-- ==== Sys2Proof/Laws/Receive.lean ====
section
/-! SUPPORT. What receiving leaves alone: every operation that a received frame can start keeps the parameters, the
storage of other units, the environment's answers and the answer, and only adds to the traces; and none of them reads
the answer. -/

namespace Sys2Proof.Machine

/-- What no operation of the receive path changes (R53, R277), and the growth of the two traces it may add to (R49). -/
structure Received (s t : State) : Prop where
  params : t.params = s.params
  alive : t.alive = s.alive
  collector : t.collector = s.collector
  h4Collector : t.h4Collector = s.h4Collector
  phyTx : t.phyTx = s.phyTx
  events : t.events = s.events
  allocDraws : t.allocDraws = s.allocDraws
  sinkDraws : t.sinkDraws = s.sinkDraws
  answer : t.answer = s.answer
  freeCount : t.freeCount = s.freeCount
  rtxWork : t.rtxWork = s.rtxWork
  wakeWork : t.wakeWork = s.wakeWork
  upRx : s.upRx <+: t.upRx
  faults : s.faults <+: t.faults

theorem Received.refl (s : State) : Received s s := by
  constructor <;> rfl

theorem Received.trans {s t u : State} (h : Received s t) (k : Received t u) : Received s u where
  params := k.params.trans h.params
  alive := k.alive.trans h.alive
  collector := k.collector.trans h.collector
  h4Collector := k.h4Collector.trans h.h4Collector
  phyTx := k.phyTx.trans h.phyTx
  events := k.events.trans h.events
  allocDraws := k.allocDraws.trans h.allocDraws
  sinkDraws := k.sinkDraws.trans h.sinkDraws
  answer := k.answer.trans h.answer
  freeCount := k.freeCount.trans h.freeCount
  rtxWork := k.rtxWork.trans h.rtxWork
  wakeWork := k.wakeWork.trans h.wakeWork
  upRx := h.upRx.trans k.upRx
  faults := h.faults.trans k.faults

/-! ### The parts -/

theorem raiseFault_received (r : Report) (s : State) : Received s (raiseFault r s) := by
  constructor <;> first | rfl | exact List.prefix_append _ _

theorem emitUp_received (s : State) (u : QUnit) : Received s (s.emitUp u) := by
  constructor <;> first | rfl | exact List.prefix_append _ _

theorem linkSend_received (m : LcName) (c : Option Byte) (s : State) : Received s (linkSend m c s) := by
  constructor <;> rfl

theorem arqReload_received (s : State) : Received s (arqReload s) := by
  constructor <;> rfl

theorem enterActive_received (s : State) : Received s (enterActive s) := by
  constructor <;> rfl

theorem rxWoken_received (s : State) : Received s (rxWoken s) := by
  unfold rxWoken
  split
  · split <;> constructor <;> rfl
  · exact .refl s

theorem rxWakeup_received (s : State) : Received s (rxWakeup s) := by
  unfold rxWakeup
  split
  · constructor <;> rfl
  · exact rxWoken_received s
  all_goals exact .refl s

theorem rxSleep_received (s : State) : Received s (rxSleep s) := by
  unfold rxSleep
  split
  · split <;> constructor <;> rfl
  · exact .refl s

theorem rxSync_received (s : State) : Received s (rxSync s) := by
  unfold rxSync
  split
  all_goals first | exact linkSend_received _ _ s | exact .refl s | exact raiseFault_received _ s

theorem rxSyncResp_received (s : State) : Received s (rxSyncResp s) := by
  unfold rxSyncResp
  split
  · constructor <;> rfl
  all_goals exact .refl s

theorem rxConf_received (cfg : Option Byte) (s : State) : Received s (rxConf cfg s) := by
  unfold rxConf
  split
  · exact .refl s
  all_goals constructor <;> rfl

theorem rxConfResp_received (cfg : Option Byte) (s : State) : Received s (rxConfResp cfg s) := by
  unfold rxConfResp
  split
  · dsimp only
    split <;> constructor <;> rfl
  all_goals exact .refl s

theorem linkDispatch_received (m : LcMsg) (s : State) : Received s (linkDispatch m s) := by
  cases m
  · exact rxSync_received s
  · exact rxSyncResp_received s
  · exact rxConf_received _ s
  · exact rxConfResp_received _ s
  · exact rxWakeup_received s
  · exact rxWoken_received s
  · exact rxSleep_received s
  · exact .refl s

theorem acceptSeq_received (s : State) : Received s (acceptSeq s) := by
  constructor <;> rfl

theorem acknowledge_received (k : Nat) (a : Count3) (s : State) : Received s (acknowledge k a s) := by
  constructor <;> rfl

theorem rxAck_received (a : Count3) (s : State) : Received s (rxAck a s) := by
  unfold rxAck
  split
  · constructor <;> rfl
  · split
    · exact acknowledge_received _ _ s
    · exact .refl s

theorem recvFrameFrom_received (k : NodeKind) (u : QUnit) (s : State) : Received s (recvFrameFrom k u s) := by
  unfold recvFrameFrom
  split
  · exact emitUp_received s u
  · exact .refl s

theorem deliver_received (h : Header) (p : Bytes) (arqOn : Bool) (s : State) : Received s (deliver h p arqOn s) := by
  unfold deliver
  split
  · exact linkDispatch_received _ s
  · split
    · split
      · exact recvFrameFrom_received _ _ s
      · exact .refl s
    · exact .refl s

theorem rxGood_received (h : Header) (p : Bytes) (s : State) : Received s (rxGood h p s) := by
  unfold rxGood
  split
  · split
    · split
      · exact ((acceptSeq_received s).trans (rxAck_received _ _)).trans (deliver_received _ _ _ _)
      · exact raiseFault_received _ s
    · exact (rxAck_received _ s).trans (deliver_received _ _ _ _)
  · exact deliver_received _ _ _ s

/-- Everything RX.FRAME leaves alone (R277, R53). -/
theorem rxFrame_received (f : Bytes) (s : State) : Received s (rxFrame f s) := by
  unfold rxFrame
  split
  · exact .refl s
  all_goals first | exact raiseFault_received _ s | exact rxGood_received _ _ s

theorem linkTimeout_received (s : State) : Received s (linkTimeout s) := by
  unfold linkTimeout
  split
  all_goals first | exact .refl s | (constructor <;> rfl)

theorem arqTimeout_received (s : State) : Received s (arqTimeout s) := by
  unfold arqTimeout
  split
  · exact .refl s
  · split
    · exact raiseFault_received _ s
    · constructor <;> rfl

/-! ### The answer is not read -/

@[simp] theorem answering_answering (s : State) (a b : Answer) : (s.answering a).answering b = s.answering b := rfl

theorem rxWoken_answering (s : State) (a : Answer) : rxWoken (s.answering a) = (rxWoken s).answering a := by
  have h1 : (s.answering a).linkActive = s.linkActive := rfl
  have h2 : (s.answering a).desync = s.desync := rfl
  unfold rxWoken
  rw [h1, h2]
  cases s.linkActive
  · rfl
  · cases s.desync <;> rfl

theorem linkDispatch_answering (m : LcMsg) (s : State) (a : Answer) :
    linkDispatch m (s.answering a) = (linkDispatch m s).answering a := by
  have hl : (s.answering a).localState = s.localState := rfl
  cases m
  · unfold linkDispatch rxSync; dsimp only; rw [hl]; cases s.localState <;> rfl
  · unfold linkDispatch rxSyncResp; dsimp only; rw [hl]; cases s.localState <;> rfl
  · unfold linkDispatch rxConf; dsimp only; rw [hl]; cases s.localState <;> rfl
  · have hp : (s.answering a).peerState = s.peerState := rfl
    unfold linkDispatch rxConfResp
    dsimp only
    rw [hl, hp]
    cases s.localState
    case initialized => dsimp only; split <;> rfl
    all_goals rfl
  · unfold linkDispatch rxWakeup
    dsimp only
    rw [hl]
    cases s.localState
    case active => exact rxWoken_answering s a
    all_goals rfl
  · exact rxWoken_answering s a
  · have h1 : (s.answering a).linkActive = s.linkActive := rfl
    have h2 : (s.answering a).desync = s.desync := rfl
    unfold linkDispatch rxSleep
    dsimp only
    rw [h1, h2]
    cases s.linkActive
    · rfl
    · cases s.desync <;> rfl
  · rfl

theorem rxAck_answering (x : Count3) (s : State) (a : Answer) : rxAck x (s.answering a) = (rxAck x s).answering a := by
  unfold rxAck
  by_cases h : x = s.seq
  · rw [if_pos h, if_pos (show x = (s.answering a).seq from h)]; rfl
  · rw [if_neg h, if_neg (show ¬ x = (s.answering a).seq from h)]
    by_cases hd : s.ackDistance x ≤ s.sentQ.length
    · rw [if_pos hd, if_pos (show (s.answering a).ackDistance x ≤ (s.answering a).sentQ.length from hd)]; rfl
    · rw [if_neg hd, if_neg (show ¬ (s.answering a).ackDistance x ≤ (s.answering a).sentQ.length from hd)]

theorem recvFrameFrom_answering (k : NodeKind) (u : QUnit) (s : State) (a : Answer) :
    recvFrameFrom k u (s.answering a) = (recvFrameFrom k u s).answering a := by
  unfold recvFrameFrom
  rw [State.answering_params]
  cases deliversToConsumer s.params.chain k <;> rfl

theorem deliver_answering (h : Header) (p : Bytes) (arqOn : Bool) (s : State) (a : Answer) :
    deliver h p arqOn (s.answering a) = (deliver h p arqOn s).answering a := by
  unfold deliver
  by_cases hl : h.type = Config.typeLink
  · rw [if_pos hl, if_pos hl, linkDispatch_answering]
  · rw [if_neg hl, if_neg hl]
    cases tagOf h.type with
    | none => rfl
    | some tag =>
      cases arqOn
      · rfl
      · exact recvFrameFrom_answering _ _ s a

theorem rxGood_answering (h : Header) (p : Bytes) (s : State) (a : Answer) :
    rxGood h p (s.answering a) = (rxGood h p s).answering a := by
  have h1 : (s.answering a).linkActive = s.linkActive := rfl
  have h2 : (s.answering a).ack = s.ack := rfl
  have h3 : acceptSeq (s.answering a) = (acceptSeq s).answering a := rfl
  unfold rxGood
  rw [h1, h2, h3]
  cases s.linkActive
  · exact deliver_answering _ _ _ s a
  · cases h.reliable
    · simp only [Bool.false_eq_true, ↓reduceIte]; rw [rxAck_answering, deliver_answering]
    · by_cases hs : h.seq = s.ack
      · simp only [↓reduceIte, hs]; rw [rxAck_answering, deliver_answering]
      · simp only [↓reduceIte, hs]; rfl

theorem rxFrame_answering (f : Bytes) (s : State) (a : Answer) :
    rxFrame f (s.answering a) = (rxFrame f s).answering a := by
  unfold rxFrame
  cases bcspUnpack f with
  | ok h p => exact rxGood_answering _ _ s a
  | _ => rfl

theorem rxLoop_answering (n : Nat) (bs : Bytes) (s : State) (a : Answer) :
    rxLoop n bs (s.answering a) = (rxLoop n bs s).answering a := by
  induction n generalizing bs s with
  | zero => rfl
  | succ n ih =>
    cases bs with
    | nil => rfl
    | cons b bs =>
      by_cases hh : s.halted = true
      · rw [rxLoop_halted _ _ _ hh, rxLoop_halted _ _ _ (by simpa using hh)]
      · simp only [Bool.not_eq_true] at hh
        rw [rxLoop_succ _ _ _ _ hh, rxLoop_succ _ _ _ _ (by simpa using hh)]
        rw [State.answering_allocDraws, State.answering_collector]
        generalize slipCollect s.allocDraws s.collector (b :: bs) = c
        cases hc : c.completed
        · rfl
        · simp only [↓reduceIte]
          rw [← ih, ← rxFrame_answering]
          rfl

/-! ### RX.BYTES over runs -/

/-- Everything RX.BYTES' loop leaves alone, whatever it receives (R396). -/
theorem rxLoop_received (n : Nat) (bs : Bytes) (s : State) :
    Received { s with collector := (rxLoop n bs s).collector, allocDraws := (rxLoop n bs s).allocDraws }
      (rxLoop n bs s) ∧ (rxLoop n bs s).allocDraws <:+ s.allocDraws := by
  induction n generalizing bs s with
  | zero => exact ⟨.refl _, List.suffix_refl _⟩
  | succ n ih =>
    cases bs with
    | nil => exact ⟨.refl _, List.suffix_refl _⟩
    | cons b bs =>
      by_cases hh : s.halted = true
      · rw [rxLoop_halted _ _ _ hh]; exact ⟨.refl _, List.suffix_refl _⟩
      · simp only [Bool.not_eq_true] at hh
        rw [rxLoop_succ _ _ _ _ hh]
        have hd := (slipCollect_spec s.allocDraws s.collector (b :: bs)).2.1
        generalize slipCollect s.allocDraws s.collector (b :: bs) = c at hd ⊢
        split
        · obtain ⟨h1, h2⟩ := ih c.rest (rxFrame (slipDecode (c.buf.getD [])) { s.afterScan c with collector := none })
          generalize rxLoop n c.rest (rxFrame (slipDecode (c.buf.getD [])) { s.afterScan c with collector := none }) = u
            at h1 h2 ⊢
          have h3 := rxFrame_received (slipDecode (c.buf.getD [])) { s.afterScan c with collector := none }
          generalize rxFrame (slipDecode (c.buf.getD [])) { s.afterScan c with collector := none } = v at h1 h2 h3
          refine ⟨?_, h2.trans (h3.allocDraws ▸ hd)⟩
          constructor
          · exact h1.params.trans h3.params
          · exact h1.alive.trans h3.alive
          · rfl
          · exact h1.h4Collector.trans h3.h4Collector
          · exact h1.phyTx.trans h3.phyTx
          · exact h1.events.trans h3.events
          · rfl
          · exact h1.sinkDraws.trans h3.sinkDraws
          · exact h1.answer.trans h3.answer
          · exact h1.freeCount.trans h3.freeCount
          · exact h1.rtxWork.trans h3.rtxWork
          · exact h1.wakeWork.trans h3.wakeWork
          · exact h3.upRx.trans h1.upRx
          · exact (List.prefix_append _ _).trans (h3.faults.trans h1.faults)
        · refine ⟨?_, hd⟩
          constructor <;> first | rfl | exact List.prefix_append _ _

end Sys2Proof.Machine
end

