-- ==== Sys2Proof/Laws/Bytes.lean ====
section
/-! SUPPORT. Everything one turn of RX.BYTES and one byte at the H4 adapter can do. -/

namespace Sys2Proof.Machine

/-! ### RX.BYTES (46_chain.md R396) -/

/-- A scan that completes no frame ends the run. -/
theorem rxBytes_open (bs : Bytes) (s : State) (hh : s.halted = false)
    (h : (slipCollect s.allocDraws s.collector bs).completed = false) :
    rxBytes bs s = { s.afterScan (slipCollect s.allocDraws s.collector bs) with
      collector := (slipCollect s.allocDraws s.collector bs).buf } := by
  cases bs with
  | nil => simp [rxBytes, rxLoop, slipCollect, State.afterScan, raiseAllocs]
  | cons b bs => rw [rxBytes, List.length_cons, rxLoop_succ _ _ _ _ hh]; simp [h]

/-- A completed frame is received with the collector empty, and the rest of the run follows. -/
theorem rxBytes_done (bs : Bytes) (s : State) (hh : s.halted = false)
    (h : (slipCollect s.allocDraws s.collector bs).completed = true) :
    rxBytes bs s = rxBytes (slipCollect s.allocDraws s.collector bs).rest
      (rxFrame (slipDecode ((slipCollect s.allocDraws s.collector bs).buf.getD []))
        { s.afterScan (slipCollect s.allocDraws s.collector bs) with collector := none }) := by
  have hs := slipCollect_spec s.allocDraws s.collector bs
  cases bs with
  | nil => simp [slipCollect] at h
  | cons b bs =>
    rw [rxBytes, List.length_cons, rxLoop_succ _ _ _ _ hh, if_pos h]
    apply rxLoop_fuel
    · have := hs.2.2.2.1 h
      simp only [List.length_cons] at this
      omega
    · exact le_rfl

/-- A halted block receives nothing. -/
theorem rxBytes_halted (bs : Bytes) (s : State) (hh : s.halted = true) : rxBytes bs s = s := rxLoop_halted _ _ _ hh

theorem rxBytes_answering (bs : Bytes) (s : State) (a : Answer) :
    rxBytes bs (s.answering a) = (rxBytes bs s).answering a := rxLoop_answering _ _ _ _

/-! ### H4.RECV_BYTES (47_h4_sizer.md R423) -/

/-- Everything one byte can do. -/
theorem h4Byte_cases (s : State) (b : Byte) : ∃ t rest, s.h4Collector ++ [b] = t :: rest ∧
    ((sizerLen s.params t rest = .unknownType ∧ h4Byte s b = s.withH4 []) ∨
     (sizerLen s.params t rest = .insufficientHeader ∧ h4Byte s b = s.withH4 (t :: rest)) ∨
     (∃ n, sizerLen s.params t rest = .len n ∧ n ≠ rest.length ∧ h4Byte s b = s.withH4 (t :: rest)) ∨
     (∃ tag, sizerLen s.params t rest = .len rest.length ∧ h4Tag s.params t = some tag ∧
        h4Byte s b = (recvFrameFrom .h4Adapter ⟨tag, rest⟩ s).withH4 [])) := by
  cases hc : s.h4Collector ++ [b] with
  | nil => simp at hc
  | cons t rest =>
    refine ⟨t, rest, rfl, ?_⟩
    unfold h4Byte
    rw [hc]
    dsimp only
    cases hz : sizerLen s.params t rest with
    | unknownType => left; exact ⟨rfl, rfl⟩
    | insufficientHeader => right; left; exact ⟨rfl, rfl⟩
    | len n =>
      right; right
      by_cases hn : n = rest.length
      · right
        subst hn
        dsimp only
        rw [if_pos (by simp only [List.length_cons]; omega)]
        cases ht : h4Tag s.params t with
        | none => unfold sizerLen at hz; rw [ht] at hz; simp at hz
        | some tag => exact ⟨tag, rfl, rfl, rfl⟩
      · left
        dsimp only
        exact ⟨n, rfl, hn, if_neg (by simp only [List.length_cons]; omega)⟩

end Sys2Proof.Machine
end

