-- ==== Sys2Proof/Laws/Codec.lean ====
section
/-! SUPPORT. The bit fields of the header and of the configuration byte read back, the SLIP decoder byte by byte, and
what BCSP.UNPACK says of a header word and a body. -/

namespace Sys2Proof

/-! ### The configuration byte (30_encoding.md R140) -/

theorem cfg_fields_of_byte (w : BitVec 3) (f c : Bool) (v : BitVec 2) :
    cfgWindow (cfgByte w f c v) = w ∧ cfgSwFlow (cfgByte w f c v) = f ∧ cfgCrc (cfgByte w f c v) = c ∧
      cfgVersion (cfgByte w f c v) = v := by
  revert w f c v; decide +kernel

theorem cfg_byte_of_fields (c : Byte) : cfgByte (cfgWindow c) (cfgSwFlow c) (cfgCrc c) (cfgVersion c) = c &&& 0x7F := by
  revert c; decide +kernel

/-- What is sent is the byte with its reserved bit cleared. -/
theorem cfgSent_eq (c : Byte) : cfgSent c = c &&& 0x7F := cfg_byte_of_fields c

/-- A byte made of the fields is sent as it is. -/
@[simp] theorem cfgSent_cfgByte (w : BitVec 3) (f c : Bool) (v : BitVec 2) :
    cfgSent (cfgByte w f c v) = cfgByte w f c v := by
  obtain ⟨a, b, d, e⟩ := cfg_fields_of_byte w f c v
  rw [cfgSent, a, b, d, e]

/-! ### The header word (30_encoding.md R134, R136) -/

theorem hdrByte0_fields (s a : Count3) (c r : Bool) :
    hdrSeq (hdrByte0 s a c r) = s ∧ hdrAck (hdrByte0 s a c r) = a ∧ hdrCrc (hdrByte0 s a c r) = c ∧
      hdrReliable (hdrByte0 s a c r) = r := by
  revert s a c r; decide +kernel

theorem hdrByte0_of_fields (b : Byte) : hdrByte0 (hdrSeq b) (hdrAck b) (hdrCrc b) (hdrReliable b) = b := by
  revert b; decide +kernel

theorem hdrByte1_type (t : BitVec 4) (l : BitVec 12) : hdrType (hdrByte1 t l) = t := by
  unfold hdrType hdrByte1 Config.hdrTypeAt Config.hdrLenLowAt Config.hdrLenLowBits
  ext i hi
  interval_cases i <;> simp

theorem hdrLength_of_bytes (t : BitVec 4) (l : BitVec 12) : hdrLength (hdrByte1 t l) (hdrByte2 l) = l := by
  unfold hdrLength hdrByte1 hdrByte2 Config.hdrTypeAt Config.hdrLenLowAt Config.hdrLenLowBits
  ext i hi
  interval_cases i <;> simp

theorem hdrByte1_of_fields (b1 b2 : Byte) : hdrByte1 (hdrType b1) (hdrLength b1 b2) = b1 := by
  unfold hdrLength hdrByte1 hdrType Config.hdrTypeAt Config.hdrLenLowAt Config.hdrLenLowBits
  ext i hi
  interval_cases i <;> simp

theorem hdrByte2_of_fields (b1 b2 : Byte) : hdrByte2 (hdrLength b1 b2) = b2 := by
  unfold hdrLength hdrByte2 Config.hdrLenLowAt Config.hdrLenLowBits
  ext i hi
  interval_cases i <;> simp

/-- The bytes of a header word are those of its fields. -/
theorem hdrWordBytes_of_fields (b0 b1 b2 b3 : Byte) :
    hdrWordBytes (hdrType b1) (hdrFields b0 b1 b2 b3) = [b0, b1, b2, b3] := by
  simp [hdrWordBytes, hdrFields, hdrByte0_of_fields, hdrByte1_of_fields, hdrByte2_of_fields]

namespace Machine

/-! ### SLIP (41_slip.md R201) -/

theorem slipDecodeBody_plain (b : Byte) (rest : Bytes) (h : b ≠ 0xDB) :
    slipDecodeBody (b :: rest) = b :: slipDecodeBody rest := by
  cases rest with
  | nil => rfl
  | cons x r => rw [slipDecodeBody]; exact if_neg h

theorem slipDecodeBody_escaped (x d : Byte) (rest : Bytes) (h : escData x = some d) :
    slipDecodeBody (0xDB :: x :: rest) = d :: slipDecodeBody rest := by
  rw [slipDecodeBody]; simp [Config.slipEsc, h]

theorem slipDecodeBody_unrecognised (x : Byte) (rest : Bytes) (h : escData x = none) :
    slipDecodeBody (0xDB :: x :: rest) = 0xDB :: slipDecodeBody (x :: rest) := by
  rw [slipDecodeBody]; simp [Config.slipEsc, h]

/-! ### The header word of Safety.lean (30_encoding.md R134) -/

/-- Every bit of the header word, field by field. -/
theorem headerWord_getLsbD (c : Byte) (l : BitVec 12) (t : BitVec 4) (r k : Bool) (a s : Count3) (i : Nat) :
    (headerWord c l t r k a s).getLsbD i =
      if i < 3 then s.getLsbD i
      else if i - 3 < 3 then a.getLsbD (i - 3)
      else if i - 3 - 3 < 1 then (BitVec.ofBool k).getLsbD (i - 3 - 3)
      else if i - 3 - 3 - 1 < 1 then (BitVec.ofBool r).getLsbD (i - 3 - 3 - 1)
      else if i - 3 - 3 - 1 - 1 < 4 then t.getLsbD (i - 3 - 3 - 1 - 1)
      else if i - 3 - 3 - 1 - 1 - 4 < 12 then l.getLsbD (i - 3 - 3 - 1 - 1 - 4)
      else c.getLsbD (i - 3 - 3 - 1 - 1 - 4 - 12) := by
  have e : (headerWord c l t r k a s).getLsbD i =
      (c ++ l ++ t ++ BitVec.ofBool r ++ BitVec.ofBool k ++ a ++ s).getLsbD i := rfl
  rw [e]
  simp only [BitVec.getLsbD_append]

/-- The bytes of the header word are the model's header bytes. -/
theorem headerBytes_headerWord (c : Byte) (l : BitVec 12) (t : BitVec 4) (r k : Bool) (a s : Count3) :
    headerBytes (headerWord c l t r k a s) = hdrWordBytes t ⟨s, a, k, r, l, c⟩ := by
  have h := headerWord_getLsbD c l t r k a s
  unfold headerBytes hdrWordBytes hdrByte0 hdrByte1 hdrByte2 Config.hdrSeqAt Config.hdrAckAt Config.hdrCrcAt
    Config.hdrRelAt Config.hdrTypeAt Config.hdrLenLowAt Config.hdrLenLowBits
  generalize headerWord c l t r k a s = w at *
  congr 1
  · ext i hi; interval_cases i <;> simp only [BitVec.getElem_extractLsb', h] <;> simp
  congr 1
  · ext i hi; interval_cases i <;> simp only [BitVec.getElem_extractLsb', h] <;> simp
  congr 1
  · ext i hi; interval_cases i <;> simp only [BitVec.getElem_extractLsb', h] <;> simp
  congr 1
  · ext i hi; interval_cases i <;> simp only [BitVec.getElem_extractLsb', h] <;> simp

/-! ### The CRC (42_bcsp_crc.md R230, R231) -/

/-- One bit of the reflected generator, reversed, is one bit of the most-significant-bit-first one. -/
theorem crcBit_reverse (r : BitVec 16) (d : Bool) : (crcBit r d).reverse = msbCrcBit r.reverse d := by
  unfold crcBit msbCrcBit
  have h1 : (r >>> 1).reverse = r.reverse <<< 1 := by
    ext i hi
    interval_cases i <;> simp [BitVec.getElem_reverse, BitVec.getMsbD_eq_getLsbD]
  have h2 : r.getLsbD 0 = r.reverse.getLsbD 15 := by rw [BitVec.getLsbD_reverse]; rfl
  have h3 : ∀ a b : BitVec 16, (a ^^^ b).reverse = a.reverse ^^^ b.reverse := by
    intro a b
    ext i hi
    interval_cases i <;> simp [BitVec.getElem_reverse, BitVec.getMsbD_eq_getLsbD]
  rw [apply_ite BitVec.reverse, h3, h1, h2]; rfl

/-- Each bit of the generator is a bijection of the register. -/
theorem crcBit_injective (d : Bool) (r r' : BitVec 16) (h : crcBit r d = crcBit r' d) : r = r' := by
  have hb : ∀ r : BitVec 16, (crcBit r d).getLsbD 15 = (r.getLsbD 0 ^^ d) := by
    intro r; unfold crcBit Config.crcPolyReflected
    cases h : (r.getLsbD 0 ^^ d) <;> simp
  have h0 : r.getLsbD 0 = r'.getLsbD 0 := by
    have := hb r
    rw [h, hb r'] at this
    revert this
    cases r.getLsbD 0 <;> cases r'.getLsbD 0 <;> cases d <;> simp
  have hs : r >>> 1 = r' >>> 1 := by
    unfold crcBit at h
    rw [h0] at h
    split_ifs at h
    · have e := congrArg (· ^^^ Config.crcPolyReflected) h
      simpa [BitVec.xor_assoc] using e
    · exact h
  ext i hi
  rcases i with _ | i
  · simpa using h0
  · have := congrArg (fun x => x.getLsbD i) hs
    simpa [BitVec.getLsbD_ushiftRight, Nat.add_comm, hi] using this

/-! ### BCSP.UNPACK (42_bcsp_crc.md R234) -/

/-- Everything BCSP.UNPACK says of a header word and what follows it. -/
theorem bcspUnpack_word (t : BitVec 4) (h : HdrFields) (body : Bytes) : bcspUnpack (hdrWordBytes t h ++ body) =
    (if h.checksum ≠ hdrChecksum (hdrByte0 h.seq h.ack h.crcPresent h.reliable) (hdrByte1 t h.length) (hdrByte2 h.length)
      then .checksumError
    else if body.length < h.length.toNat + (if h.crcPresent then 2 else 0) then .lengthShort
    else if h.length.toNat + (if h.crcPresent then 2 else 0) < body.length then .lengthOverrun
    else if h.crcPresent = true ∧
        body.drop h.length.toNat ≠ crcBytes (crc16 (hdrWordBytes t h ++ body.take h.length.toNat)) then .crcError
    else .ok ⟨h.seq, h.ack, h.crcPresent, h.reliable, t, h.length⟩ (body.take h.length.toNat)) := by
  have a := hdrByte0_fields h.seq h.ack h.crcPresent h.reliable
  simp only [hdrWordBytes, List.cons_append, List.nil_append, bcspUnpack, hdrByte1_type, hdrLength_of_bytes, a]
  rfl

end Machine

end Sys2Proof
end

