-- ==== Sys2Proof/Laws/Flags.lean ====
section
/-! SUPPORT. The conditions of Flags.lean in the words of Safety.lean. -/

namespace Sys2Proof.Machine

theorem bcspLive_of_inService {s : State} (h : s.inService) : s.bcspLive = true := by
  simp [State.bcspLive, State.live, State.hasNode, h.alive, h.running, h.node]

theorem inService_of_bcspLive {s : State} (h : s.bcspLive = true) : s.inService := by
  simp only [State.bcspLive, State.live, State.hasNode, Bool.and_eq_true, Bool.not_eq_true', List.contains_iff_mem] at h
  exact ⟨h.1.1, h.1.2, h.2⟩

theorem h4Live_of_inH4Service {s : State} (h : s.inH4Service) : s.h4Live = true := by
  simp [State.h4Live, State.live, State.hasNode, h.alive, h.running, h.node]

/-- An operation that changes neither the parameters nor `alive` leaves the node live unless it halts the block. -/
theorem bcspLive_after {s t : State} (h : s.bcspLive = true) (hp : t.params = s.params) (ha : t.alive = s.alive) :
    t.bcspLive = !t.halted := by
  have k := inService_of_bcspLive h
  simp [State.bcspLive, State.live, State.hasNode, hp, ha, k.alive, k.node]

/-- Everything an operation of no particular node can answer. -/
theorem onLive_cases (u : State) (a : Answer) (s : State) :
    (s.live = true ∧ onLive u a s = .next (u.answering a)) ∨
      (s.live = false ∧ onLive u a s = .next (s.answering .notEnabled)) := by
  unfold onLive turnedAway; cases s.live <;> simp

/-- Everything an operation of the Bcsp node that runs to its end can answer. -/
theorem onBcsp_cases (u : State) (a : Answer) (s : State) :
    (s.bcspLive = true ∧ onBcsp u a s = .next (u.answering a)) ∨
      (s.bcspLive = false ∧ onBcsp u a s = .next (s.answering .notEnabled)) := by
  unfold onBcsp turnedAway; cases s.bcspLive <;> simp

theorem onLive_of_live {u s : State} {a : Answer} (ha : s.alive = true) (hh : s.halted = false) :
    onLive u a s = .next (u.answering a) := by
  simp [onLive, State.live, ha, hh]

theorem linkActive_iff_established (s : State) : s.linkActive = true ↔ s.established := by
  simp [State.linkActive, State.established]

theorem allocOk_of_allocsSucceed {s : State} (h : s.allocsSucceed) : allocOk s = true := by
  unfold allocOk
  cases hd : s.allocDraws with
  | nil => rfl
  | cons d ds => exact h d (by simp [hd])

/-- A failed allocation uses one draw up. -/
theorem dropAllocDraw_length {s : State} (h : allocOk s = false) :
    s.dropAllocDraw.allocDraws.length + 1 = s.allocDraws.length := by
  unfold allocOk at h
  cases hd : s.allocDraws with
  | nil => simp [hd] at h
  | cons d ds => simp [State.dropAllocDraw, hd]

end Sys2Proof.Machine
end

