-- ==== Sys2Proof/Laws/Operands.lean ====
section
/-! SUPPORT. The place of a node in the chain (46_chain.md R391 to R393); everything NEGOTIATE can answer, and that the
parameter expresses every total function (44_link_fsm.md R330). -/

namespace Sys2Proof.Machine

/-- The first node of a kind stands where no node before it has that kind. -/
theorem firstOf_split {k : NodeKind} {pre : List NodeKind} (h : k ∉ pre) (post : List NodeKind) :
    firstOf (pre ++ k :: post) k = some pre.length := by
  have : ∀ x ∈ pre, (x == k) = false := fun x hx => beq_false_of_ne fun e => h (e ▸ hx)
  simp [firstOf, List.findIdx?_append, List.findIdx?_eq_none_iff.mpr this, List.findIdx?_cons]

/-- The last node of a kind stands where no node after it has that kind. -/
theorem lastOf_split {k : NodeKind} {post : List NodeKind} (h : k ∉ post) (pre : List NodeKind) :
    lastOf (pre ++ k :: post) k = some pre.length := by
  have e := firstOf_split (k := k) (pre := post.reverse) (by simpa using h) pre.reverse
  rw [firstOf] at e
  rw [lastOf, show (pre ++ k :: post).reverse = post.reverse ++ k :: pre.reverse by simp, e]
  simp only [Option.map_some, List.length_append, List.length_cons, List.length_reverse, Option.some.injEq]
  omega

/-- Without exceptions NEGOTIATE is the echo (R330). -/
@[simp] theorem negotiate_echo {p : Params} (h : p.negotiation = []) (cfg : Option Byte) (proposal : Byte) :
    negotiate p cfg proposal = cfg := by
  simp [negotiate, h]

/-- NEGOTIATE answers a listed exception for these arguments, or, where there is none, the echo. -/
theorem negotiate_spec (p : Params) (cfg : Option Byte) (proposal : Byte) :
    (cfg, proposal, negotiate p cfg proposal) ∈ p.negotiation ∨
      ((∀ a, (cfg, proposal, a) ∉ p.negotiation) ∧ negotiate p cfg proposal = cfg) := by
  unfold negotiate
  split
  next e he =>
    obtain ⟨c, l, a⟩ := e
    have hp := List.find?_some he
    simp only [decide_eq_true_eq] at hp
    obtain ⟨rfl, rfl⟩ := hp
    exact .inl (List.mem_of_find?_eq_some he)
  next he =>
    refine .inr ⟨fun a ha => ?_, rfl⟩
    have := List.find?_eq_none.mp he _ ha
    simp at this

/-- Every byte, in order. -/
def allBytes : Bytes := (List.range 256).map (BitVec.ofNat 8)

theorem mem_allBytes (b : Byte) : b ∈ allBytes :=
  List.mem_map.mpr ⟨b.toNat, List.mem_range.mpr b.isLt, by simp⟩

/-- Every configuration field: none, or one byte. -/
def allFields : List (Option Byte) := none :: allBytes.map some

theorem mem_allFields (c : Option Byte) : c ∈ allFields := by
  cases c with
  | none => exact List.mem_cons_self
  | some b => exact List.mem_cons_of_mem _ (List.mem_map.mpr ⟨b, mem_allBytes b, rfl⟩)

/-- Every total function of the received field and the proposal is some value of the parameter (R330). -/
theorem negotiate_expresses (g : Option Byte → Byte → Option Byte) :
    ∃ l, ∀ p : Params, p.negotiation = l → ∀ cfg proposal, negotiate p cfg proposal = g cfg proposal := by
  refine ⟨allFields.flatMap fun c => allBytes.map fun b => (c, b, g c b), fun p hp cfg proposal => ?_⟩
  have all : ∀ c b a, (c, b, a) ∈ p.negotiation ↔ a = g c b := by
    intro c b a
    simp only [hp, List.mem_flatMap, List.mem_map, Prod.mk.injEq]
    constructor
    · rintro ⟨_, -, _, -, rfl, rfl, rfl⟩; rfl
    · rintro rfl; exact ⟨c, mem_allFields c, b, mem_allBytes b, rfl, rfl, rfl⟩
  rcases negotiate_spec p cfg proposal with h | ⟨h, -⟩
  · exact (all _ _ _).mp h
  · exact absurd ((all _ _ _).mpr rfl) (h _)

end Sys2Proof.Machine
end

