-- ==== Sys2Proof/Laws/PerInstr.lean ====
section
/-! SUPPORT. Facts about every instruction as syntax, one lemma per constructor: the length of its encoding. -/

namespace Sys2Proof.Laws

/-- How many bytes the encoding of an instruction has at its layer (30_encoding.md R130, R131, R134, R139, R140, R142): a
SLIP symbol one or two, a BCSP frame at least its header of four, the configuration byte one, an H4 unit at least its
type byte; a link-control payload that is no known message may have any length, a known one two or three. -/
def EncodingLength.Statement (i : Instr) : Prop :=
  match encode i with
  | none => True
  | some (.slip, bs) => 1 ≤ bs.length ∧ bs.length ≤ 2
  | some (.bcsp, bs) => 4 ≤ bs.length
  | some (.lc, bs) => bs.length = 2 ∨ bs.length = 3 ∨ i = .lcUnknown bs
  | some (.cfg, bs) => bs.length = 1
  | some (.h4t, bs) => 1 ≤ bs.length

/-- A header word and what follows it have at least the four bytes of the header. -/
theorem header_length (type : BitVec 4) (h : HdrFields) (tail : Bytes) : 4 ≤ (hdrWordBytes type h ++ tail).length :=
  Nat.le_add_left 4 tail.length

theorem EncodingLength.slipEncode (payload : Bytes) (escapeXonXoff : Bool) :
    Statement (.slipEncode payload escapeXonXoff) := trivial
theorem EncodingLength.slipDecode (frame : Bytes) : Statement (.slipDecode frame) := trivial
theorem EncodingLength.slipCollect (buf : Option Bytes) (incoming : Bytes) :
    Statement (.slipCollect buf incoming) := trivial
theorem EncodingLength.slipResync (incoming : Bytes) (i : Nat) : Statement (.slipResync incoming i) := trivial
theorem EncodingLength.crcUpdate (reg : BitVec 16) (d : Byte) : Statement (.crcUpdate reg d) := trivial
theorem EncodingLength.crc16 (bs : Bytes) : Statement (.crc16 bs) := trivial
theorem EncodingLength.hdrChecksum (b0 b1 b2 : Byte) : Statement (.hdrChecksum b0 b1 b2) := trivial
theorem EncodingLength.bcspPack (payload : Bytes) (type : BitVec 4) (reliable : Bool) (ack : Count3) (useCrc : Bool) :
    Statement (.bcspPack payload type reliable ack useCrc) := trivial
theorem EncodingLength.bcspUnpack (f : Bytes) : Statement (.bcspUnpack f) := trivial
theorem EncodingLength.arqClassify (tag : Tag) : Statement (.arqClassify tag) := trivial
theorem EncodingLength.upSend (tag : Tag) (payload : Bytes) : Statement (.upSend tag payload) := trivial
theorem EncodingLength.txStep : Statement .txStep := trivial
theorem EncodingLength.txFrame (u : QUnit) (reliable : Bool) : Statement (.txFrame u reliable) := trivial
theorem EncodingLength.txAckFrame : Statement .txAckFrame := trivial
theorem EncodingLength.rxFrame (f : Bytes) : Statement (.rxFrame f) := trivial
theorem EncodingLength.arqRxSeq (n : Count3) : Statement (.arqRxSeq n) := trivial
theorem EncodingLength.arqRxAck (a : Count3) : Statement (.arqRxAck a) := trivial
theorem EncodingLength.arqDeliver (h : Header) (p : Bytes) (arqOn : Bool) : Statement (.arqDeliver h p arqOn) := trivial
theorem EncodingLength.rtxFire : Statement .rtxFire := trivial
theorem EncodingLength.rtxWork : Statement .rtxWork := trivial
theorem EncodingLength.rtxTimeout : Statement .rtxTimeout := trivial
theorem EncodingLength.arqTimeout : Statement .arqTimeout := trivial
theorem EncodingLength.arqReload : Statement .arqReload := trivial
theorem EncodingLength.linkDispatch (m : LcMsg) : Statement (.linkDispatch m) := trivial
theorem EncodingLength.linkTimeout : Statement .linkTimeout := trivial
theorem EncodingLength.linkRxSync : Statement .linkRxSync := trivial
theorem EncodingLength.linkRxSyncResp : Statement .linkRxSyncResp := trivial
theorem EncodingLength.linkRxConf (cfg : Option Byte) : Statement (.linkRxConf cfg) := trivial
theorem EncodingLength.linkRxConfResp (cfg : Option Byte) : Statement (.linkRxConfResp cfg) := trivial
theorem EncodingLength.linkEnterActive : Statement .linkEnterActive := trivial
theorem EncodingLength.linkSend (msg : LcName) (cfg : Option Byte) : Statement (.linkSend msg cfg) := trivial
theorem EncodingLength.negotiate (cfg : Option Byte) : Statement (.negotiate cfg) := trivial
theorem EncodingLength.pwrRxWakeup : Statement .pwrRxWakeup := trivial
theorem EncodingLength.pwrRxWoken : Statement .pwrRxWoken := trivial
theorem EncodingLength.pwrRxSleep : Statement .pwrRxSleep := trivial
theorem EncodingLength.pwrSleepReq : Statement .pwrSleepReq := trivial
theorem EncodingLength.wakeFire : Statement .wakeFire := trivial
theorem EncodingLength.wakeWork : Statement .wakeWork := trivial
theorem EncodingLength.wakeTimeout : Statement .wakeTimeout := trivial
theorem EncodingLength.txWake : Statement .txWake := trivial
theorem EncodingLength.guardElapse : Statement .guardElapse := trivial
theorem EncodingLength.pwrSendWakeup : Statement .pwrSendWakeup := trivial
theorem EncodingLength.run : Statement .run := trivial
theorem EncodingLength.peer (d : PeerFrame) : Statement (.peer d) := trivial
theorem EncodingLength.chainNext (i : Nat) : Statement (.chainNext i) := trivial
theorem EncodingLength.chainPrev (i : Nat) : Statement (.chainPrev i) := trivial
theorem EncodingLength.chainSendBytes (bs : Bytes) : Statement (.chainSendBytes bs) := trivial
theorem EncodingLength.chainRecvFrame (tag : Tag) (p : Bytes) : Statement (.chainRecvFrame tag p) := trivial
theorem EncodingLength.rxBytes (bs : Bytes) : Statement (.rxBytes bs) := trivial
theorem EncodingLength.phyWrite (bs : Bytes) : Statement (.phyWrite bs) := trivial
theorem EncodingLength.sizerLen (t : Byte) (h : Bytes) : Statement (.sizerLen t h) := trivial
theorem EncodingLength.h4SendFrame (tag : Tag) (payload : Bytes) : Statement (.h4SendFrame tag payload) := trivial
theorem EncodingLength.h4RecvBytes (bs : Bytes) : Statement (.h4RecvBytes bs) := trivial
theorem EncodingLength.sysInit (p : Params) : Statement (.sysInit p) := trivial
theorem EncodingLength.sysTeardown : Statement .sysTeardown := trivial
theorem EncodingLength.raiseFault (r : Report) : Statement (.raiseFault r) := trivial
theorem EncodingLength.slipEnd : Statement .slipEnd := ⟨Nat.le_add_left 1 _, Nat.le_succ 1⟩
theorem EncodingLength.slipEscEnd : Statement .slipEscEnd := ⟨Nat.le_add_left 1 _, Nat.le_refl 2⟩
theorem EncodingLength.slipEscEsc : Statement .slipEscEsc := ⟨Nat.le_add_left 1 _, Nat.le_refl 2⟩
theorem EncodingLength.slipEscXon : Statement .slipEscXon := ⟨Nat.le_add_left 1 _, Nat.le_refl 2⟩
theorem EncodingLength.slipEscXoff : Statement .slipEscXoff := ⟨Nat.le_add_left 1 _, Nat.le_refl 2⟩
theorem EncodingLength.slipBadEsc (x : Option Byte) :
    Statement (.slipBadEsc x) := by
  cases x with
  | none => exact ⟨Nat.le_refl 1, Nat.le_succ 1⟩
  | some _ => exact ⟨Nat.le_succ 1, Nat.le_refl 2⟩
theorem EncodingLength.slipLit (b : Byte) : Statement (.slipLit b) := ⟨Nat.le_refl 1, Nat.le_succ 1⟩
theorem EncodingLength.bcspAck (h : HdrFields) (tail : Bytes) :
    Statement (.bcspAck h tail) := header_length _ _ _
theorem EncodingLength.bcspCmd (h : HdrFields) (tail : Bytes) :
    Statement (.bcspCmd h tail) := header_length _ _ _
theorem EncodingLength.bcspAcl (h : HdrFields) (tail : Bytes) :
    Statement (.bcspAcl h tail) := header_length _ _ _
theorem EncodingLength.bcspEvt (h : HdrFields) (tail : Bytes) :
    Statement (.bcspEvt h tail) := header_length _ _ _
theorem EncodingLength.bcspIso (h : HdrFields) (tail : Bytes) :
    Statement (.bcspIso h tail) := header_length _ _ _
theorem EncodingLength.bcspVnd (h : HdrFields) (tail : Bytes) :
    Statement (.bcspVnd h tail) := header_length _ _ _
theorem EncodingLength.bcspLink (h : HdrFields) (tail : Bytes) :
    Statement (.bcspLink h tail) := header_length _ _ _
theorem EncodingLength.bcspRsvd3 (h : HdrFields) (tail : Bytes) :
    Statement (.bcspRsvd3 h tail) := header_length _ _ _
theorem EncodingLength.bcspRsvd6 (h : HdrFields) (tail : Bytes) :
    Statement (.bcspRsvd6 h tail) := header_length _ _ _
theorem EncodingLength.bcspRsvd7 (h : HdrFields) (tail : Bytes) :
    Statement (.bcspRsvd7 h tail) := header_length _ _ _
theorem EncodingLength.bcspRsvd8 (h : HdrFields) (tail : Bytes) :
    Statement (.bcspRsvd8 h tail) := header_length _ _ _
theorem EncodingLength.bcspRsvd9 (h : HdrFields) (tail : Bytes) :
    Statement (.bcspRsvd9 h tail) := header_length _ _ _
theorem EncodingLength.bcspRsvd10 (h : HdrFields) (tail : Bytes) :
    Statement (.bcspRsvd10 h tail) := header_length _ _ _
theorem EncodingLength.bcspRsvd11 (h : HdrFields) (tail : Bytes) :
    Statement (.bcspRsvd11 h tail) := header_length _ _ _
theorem EncodingLength.bcspRsvd12 (h : HdrFields) (tail : Bytes) :
    Statement (.bcspRsvd12 h tail) := header_length _ _ _
theorem EncodingLength.bcspRsvd13 (h : HdrFields) (tail : Bytes) :
    Statement (.bcspRsvd13 h tail) := header_length _ _ _
theorem EncodingLength.lcSync : Statement .lcSync := .inl rfl
theorem EncodingLength.lcSyncResp : Statement .lcSyncResp := .inl rfl
theorem EncodingLength.lcConf : Statement .lcConf := .inl rfl
theorem EncodingLength.lcConfResp : Statement .lcConfResp := .inl rfl
theorem EncodingLength.lcWakeup : Statement .lcWakeup := .inl rfl
theorem EncodingLength.lcWoken : Statement .lcWoken := .inl rfl
theorem EncodingLength.lcSleep : Statement .lcSleep := .inl rfl
theorem EncodingLength.lcConfCfg (cfg : Byte) : Statement (.lcConfCfg cfg) := .inr (.inl rfl)
theorem EncodingLength.lcConfRespCfg (cfg : Byte) :
    Statement (.lcConfRespCfg cfg) := .inr (.inl rfl)
theorem EncodingLength.lcUnknown (p : Bytes) : Statement (.lcUnknown p) := .inr (.inr rfl)
theorem EncodingLength.cfg (window : BitVec 3) (swFlow : Bool) (crc : Bool) (version : BitVec 2) :
    Statement (.cfg window swFlow crc version) := rfl
theorem EncodingLength.h4Cmd (rest : Bytes) : Statement (.h4Cmd rest) := Nat.le_add_left 1 rest.length
theorem EncodingLength.h4Acl (rest : Bytes) : Statement (.h4Acl rest) := Nat.le_add_left 1 rest.length
theorem EncodingLength.h4Evt (rest : Bytes) : Statement (.h4Evt rest) := Nat.le_add_left 1 rest.length
theorem EncodingLength.h4Iso (rest : Bytes) : Statement (.h4Iso rest) := Nat.le_add_left 1 rest.length
theorem EncodingLength.h4Unknown (t : Byte) (rest : Bytes) :
    Statement (.h4Unknown t rest) := Nat.le_add_left 1 rest.length

end Sys2Proof.Laws
end

