-- ==== Sys2Proof/Laws/Send.lean ====
section
/-! SUPPORT. Everything a write to the sink, the sending of a frame and an iteration of the worker can do. -/

namespace Sys2Proof.Machine

/-! ### Flow and Iteration -/

@[simp] theorem Flow.andThen_go (s : State) (g : State → Flow) : (Flow.go s).andThen g = g s := rfl
@[simp] theorem Flow.andThen_abandoned (s : State) (g : State → Flow) : (Flow.abandoned s).andThen g = .abandoned s := rfl
@[simp] theorem Flow.andThen_stop (s : State) (g : State → Flow) : (Flow.stop s).andThen g = .stop s := rfl
@[simp] theorem Flow.andThen_stall (g : State → Flow) : Flow.stall.andThen g = .stall := rfl
@[simp] theorem Flow.outcome_go (s : State) (a : Answer) : (Flow.go s).outcome a = .next (s.answering a) := rfl
@[simp] theorem Flow.outcome_abandoned (s : State) (a : Answer) :
    (Flow.abandoned s).outcome a = .next (s.answering .allocFailed) := rfl
@[simp] theorem Flow.outcome_stop (s : State) (a : Answer) : (Flow.stop s).outcome a = .next (s.answering .faulted) := rfl
@[simp] theorem Flow.outcome_stall (a : Answer) : Flow.stall.outcome a = .fault .sinkStalled := rfl

/-! ### The sink -/

/-- Everything PHY.WRITE's loop can do: it writes all of `rest`, or a part of it and then fails, or it stalls, which
only a stalled answer makes it do; what is left of the answers is an end of them. -/
theorem sinkLoop_spec (limit : Nat) (ds : List SinkAnswer) (rest out : Bytes) (errors : Nat) :
    (∃ ds', sinkLoop limit ds rest out errors = .complete (out ++ rest) ds' ∧ ds' <:+ ds) ∨
    (∃ n ds', n < rest.length ∧ sinkLoop limit ds rest out errors = .failed (out ++ rest.take n) ds' ∧ ds' <:+ ds) ∨
    (sinkLoop limit ds rest out errors = .stalled ∧ .stalled ∈ ds) := by
  induction ds generalizing rest out errors with
  | nil => cases rest <;> simp [sinkLoop]
  | cons d ds ih =>
    cases rest with
    | nil => left; exact ⟨d :: ds, by simp [sinkLoop], List.suffix_refl _⟩
    | cons b bs =>
      cases d with
      | accepted k =>
        rcases ih ((b :: bs).drop k) (out ++ (b :: bs).take k) errors with
          ⟨ds', h, hs⟩ | ⟨n, ds', hn, h, hs⟩ | ⟨h, hm⟩
        · left
          exact ⟨ds', by rw [sinkLoop, h, List.append_assoc, List.take_append_drop]; simp,
            hs.trans (List.suffix_cons _ _)⟩
        · right; left
          refine ⟨k + n, ds', ?_, ?_, hs.trans (List.suffix_cons _ _)⟩
          · simp only [List.length_drop] at hn; omega
          · rw [sinkLoop, h, List.append_assoc, List.take_add]; simp
        · right; right
          exact ⟨by rw [sinkLoop, h]; simp, List.mem_cons_of_mem _ hm⟩
      | hardError =>
        by_cases hl : limit < errors + 1
        · right; left
          exact ⟨0, ds, by simp, by simp [sinkLoop, hl], List.suffix_cons _ _⟩
        · rcases ih (b :: bs) out (errors + 1) with ⟨ds', h, hs⟩ | ⟨n, ds', hn, h, hs⟩ | ⟨h, hm⟩
          · left; exact ⟨ds', by simp [sinkLoop, hl, h], hs.trans (List.suffix_cons _ _)⟩
          · right; left; exact ⟨n, ds', hn, by simp [sinkLoop, hl, h], hs.trans (List.suffix_cons _ _)⟩
          · right; right; exact ⟨by simp [sinkLoop, hl, h], List.mem_cons_of_mem _ hm⟩
      | stalled => right; right; simp [sinkLoop]

/-- The state after a write that took `n` bytes of `bs` and left the answers `ds`. -/
def State.wrote (s : State) (bs : Bytes) (n : Nat) (ds : List SinkAnswer) : State :=
  { s with phyTx := s.phyTx ++ bs.take n, sinkDraws := ds }

/-- Everything PHY.WRITE can do (R397). -/
theorem writeSink_cases (bs : Bytes) (s : State) :
    (∃ ds, writeSink bs s = .go (s.wrote bs bs.length ds) ∧ ds <:+ s.sinkDraws) ∨
    (∃ n ds, n < bs.length ∧ writeSink bs s = .stop (raiseFault (.write n) (s.wrote bs n ds)) ∧ ds <:+ s.sinkDraws) ∨
    (writeSink bs s = .stall ∧ .stalled ∈ s.sinkDraws) := by
  rcases sinkLoop_spec s.params.writeRetryLimit s.sinkDraws bs [] 0 with ⟨ds, h, hs⟩ | ⟨n, ds, hn, h, hs⟩ | ⟨h, hm⟩
  · left; exact ⟨ds, by simp [writeSink, h, State.wrote], hs⟩
  · right; left
    refine ⟨n, ds, hn, ?_, hs⟩
    have : min n bs.length = n := by omega
    simp [writeSink, h, State.wrote, this]
  · right; right; exact ⟨by simp [writeSink, h], hm⟩

/-- Everything `send_bytes` on the next node can do (R392, R394). -/
theorem sendBytesFrom_cases (k : NodeKind) (bs : Bytes) (s : State) :
    (sendsToSink s.params.chain k = false ∧ sendBytesFrom k bs s = .go s) ∨
    (sendsToSink s.params.chain k = true ∧ ∃ ds, ds <:+ s.sinkDraws ∧
      sendBytesFrom k bs s = .go (s.wrote bs bs.length ds)) ∨
    (sendsToSink s.params.chain k = true ∧ ∃ n ds, n < bs.length ∧ ds <:+ s.sinkDraws ∧
      sendBytesFrom k bs s = .stop (raiseFault (.write n) (s.wrote bs n ds))) ∨
    (sendBytesFrom k bs s = .stall ∧ .stalled ∈ s.sinkDraws) := by
  by_cases hc : sendsToSink s.params.chain k = true
  · rcases writeSink_cases bs s with ⟨ds, h, hd⟩ | ⟨n, ds, hn, h, hd⟩ | ⟨h, hm⟩
    · right; left; exact ⟨hc, ds, hd, by simp [sendBytesFrom, hc, h]⟩
    · right; right; left; exact ⟨hc, n, ds, hn, hd, by simp [sendBytesFrom, hc, h]⟩
    · right; right; right; exact ⟨by simp [sendBytesFrom, hc, h], hm⟩
  · left; exact ⟨by simpa using hc, by simp [sendBytesFrom, hc]⟩

/-- A sink that takes every write whole (R397). -/
theorem writeSink_perfect (bs : Bytes) (s : State) (h : s.sinkDraws = []) :
    writeSink bs s = .go { s with phyTx := s.phyTx ++ bs, sinkDraws := [] } := by
  cases bs <;> simp [writeSink, h, sinkLoop]

/-! ### Sending a frame -/

/-- The state in which TX.FRAME writes: its draw is used and BCSP.PACK has numbered the frame. -/
def State.packed (s : State) (reliable : Bool) : State := s.dropAllocDraw.bumpSeq reliable

/-- Everything TX.FRAME can do (R273, R443, R446). -/
theorem txFrame_cases (u : QUnit) (reliable : Bool) (s : State) :
    (allocOk s = false ∧ txFrame u reliable s = .abandoned (raiseFault .alloc s.dropAllocDraw)) ∨
    (allocOk s = true ∧ sendsToSink s.params.chain .bcsp = false ∧
      txFrame u reliable s = .go { s.packed reliable with ackRequired := false }) ∨
    (allocOk s = true ∧ sendsToSink s.params.chain .bcsp = true ∧ ∃ ds, ds <:+ s.sinkDraws ∧
      txFrame u reliable s =
        .go { (s.packed reliable).wrote (s.wireBytes u reliable) (s.wireBytes u reliable).length ds with
          ackRequired := false }) ∨
    (allocOk s = true ∧ sendsToSink s.params.chain .bcsp = true ∧ ∃ n ds,
      n < (s.wireBytes u reliable).length ∧ ds <:+ s.sinkDraws ∧
      txFrame u reliable s =
        .stop (raiseFault (.write n) ((s.packed reliable).wrote (s.wireBytes u reliable) n ds))) ∨
    (txFrame u reliable s = .stall ∧ .stalled ∈ s.sinkDraws) := by
  by_cases ha : allocOk s = true
  · rcases sendBytesFrom_cases .bcsp (s.wireBytes u reliable) (s.packed reliable) with
      ⟨hc, h⟩ | ⟨hc, ds, hd, h⟩ | ⟨hc, n, ds, hn, hd, h⟩ | ⟨h, hm⟩
    · right; left; exact ⟨ha, hc, by simp only [txFrame, ha, ↓reduceIte]; rw [← State.packed, h]; rfl⟩
    · right; right; left; exact ⟨ha, hc, ds, hd, by simp only [txFrame, ha, ↓reduceIte]; rw [← State.packed, h]; rfl⟩
    · right; right; right; left
      exact ⟨ha, hc, n, ds, hn, hd, by simp only [txFrame, ha, ↓reduceIte]; rw [← State.packed, h]; rfl⟩
    · right; right; right; right
      exact ⟨by simp only [txFrame, ha, ↓reduceIte]; rw [← State.packed, h]; rfl, hm⟩
  · left; exact ⟨by simpa using ha, by simp [txFrame, ha]⟩

/-- TX.FRAME where the allocation succeeds, the chain leads to the sink and the sink takes every write whole (R273). -/
theorem txFrame_perfect (u : QUnit) (reliable : Bool) (s : State) (ha : allocOk s = true)
    (hc : sendsToSink s.params.chain .bcsp = true) (hs : s.sinkDraws = []) :
    txFrame u reliable s =
      .go { s with
        seq := if reliable then s.seq + 1 else s.seq
        allocDraws := s.allocDraws.tail
        phyTx := s.phyTx ++ s.wireBytes u reliable
        sinkDraws := []
        ackRequired := false } := by
  have hc' : sendsToSink ((s.dropAllocDraw).bumpSeq reliable).params.chain .bcsp = true := hc
  have hs' : ((s.dropAllocDraw).bumpSeq reliable).sinkDraws = [] := hs
  simp only [txFrame, ha, ↓reduceIte, sendBytesFrom, hc']
  rw [writeSink_perfect _ _ hs']
  rfl

/-- Everything PWR.SEND_WAKEUP can do (R370, R443). -/
theorem sendWakeup_cases (s : State) :
    (∃ t, txFrame wakeupUnit false s = .go t ∧ sendWakeup s =
      .go { t with ackRequired := s.ackRequired, wakeupPending := true, guardWait := true, wakeTimer := .armed }) ∨
    (∃ t, txFrame wakeupUnit false s = .abandoned t ∧ sendWakeup s = .abandoned t) ∨
    (∃ t, txFrame wakeupUnit false s = .stop t ∧ sendWakeup s = .stop t) ∨
    (txFrame wakeupUnit false s = .stall ∧ sendWakeup s = .stall) := by
  cases h : txFrame wakeupUnit false s <;> simp [sendWakeup, h]

/-! ### The worker -/

/-- Everything the unreliable part of TX.STEP can do (R272, R443). -/
theorem txUnreliable_cases (s : State) :
    (s.unrelSendable = false ∧ txUnreliable s = .on s false) ∨
    (∃ u q, s.unrelQ = u :: q ∧ (isPower u || s.gateOpen) = true ∧
      ((∃ t, txFrame u false { s with unrelQ := q } = .go t ∧ txUnreliable s = .on t true) ∨
       (∃ t, txFrame u false { s with unrelQ := q } = .abandoned t ∧
          txUnreliable s = .on { t with unrelQ := u :: q } false) ∨
       (∃ t, txFrame u false { s with unrelQ := q } = .stop t ∧ txUnreliable s = .stop t) ∨
       (txFrame u false { s with unrelQ := q } = .stall ∧ txUnreliable s = .stall))) := by
  cases hq : s.unrelQ with
  | nil => left; simp [State.unrelSendable, txUnreliable, hq]
  | cons u q =>
    by_cases hg : (isPower u || s.gateOpen) = true
    · right
      refine ⟨u, q, rfl, hg, ?_⟩
      cases h : txFrame u false { s with unrelQ := q } <;> simp [txUnreliable, hq, hg, h]
    · left; exact ⟨by simpa [State.unrelSendable, hq] using hg, by simp [txUnreliable, hq, hg]⟩

/-- Everything the reliable part of TX.STEP can do (R272, R443). -/
theorem txReliable_cases (s : State) (sent : Bool) :
    ((s.relReady && s.gateOpen) = false ∧ txReliable s sent = .on s sent) ∨
    (∃ u q, s.relQ = u :: q ∧ (s.relReady && s.gateOpen) = true ∧
      ((∃ t, txFrame u true { s with relQ := q } = .go t ∧
          txReliable s sent =
            .on { t with sentQ := t.sentQ ++ [u], credit := t.credit - 1, rtxTimer := .armed } true) ∨
       (∃ t, txFrame u true { s with relQ := q } = .abandoned t ∧
          txReliable s sent = .on { t with relQ := u :: q } sent) ∨
       (∃ t, txFrame u true { s with relQ := q } = .stop t ∧ txReliable s sent = .stop t) ∨
       (txFrame u true { s with relQ := q } = .stall ∧ txReliable s sent = .stall))) := by
  by_cases hg : (s.relReady && s.gateOpen) = true
  · cases hq : s.relQ with
    | nil => simp [State.relReady, hq] at hg
    | cons u q =>
      right
      refine ⟨u, q, rfl, hg, ?_⟩
      cases h : txFrame u true { s with relQ := q } <;> simp [txReliable, hq, hg, h]
  · left; exact ⟨by simpa using hg, by simp [txReliable, hg]⟩

/-- Everything the last part of TX.STEP can do (R272, R274, R443). -/
theorem txOwedAck_cases (s : State) (sent : Bool) :
    ((!sent && s.ackRequired && s.gateOpen) = false ∧ txOwedAck s sent = .go s) ∨
    ((!sent && s.ackRequired && s.gateOpen) = true ∧
      ((∃ t, txFrame ackUnit false s = .go t ∧ txOwedAck s sent = .go t) ∨
       (∃ t, txFrame ackUnit false s = .abandoned t ∧ txOwedAck s sent = .go t) ∨
       (∃ t, txFrame ackUnit false s = .stop t ∧ txOwedAck s sent = .stop t) ∨
       (txFrame ackUnit false s = .stall ∧ txOwedAck s sent = .stall))) := by
  by_cases hg : (!sent && s.ackRequired && s.gateOpen) = true
  · right
    refine ⟨hg, ?_⟩
    cases h : txFrame ackUnit false s <;> simp [txOwedAck, hg, h]
  · left; exact ⟨by simpa using hg, by simp only [txOwedAck, hg]; rfl⟩

/-- Everything TX.STEP can do, part by part (R272). -/
theorem txStep_cases (s : State) :
    (s.work = false ∧ txStep s = .go { s with workerScheduled := false }) ∨
    (s.work = true ∧
      ((∃ t, txUnreliable s = .stop t ∧ txStep s = .stop t) ∨
       (txUnreliable s = .stall ∧ txStep s = .stall) ∨
       (∃ t sent, txUnreliable s = .on t sent ∧
          ((∃ t', txReliable t sent = .stop t' ∧ txStep s = .stop t') ∨
           (txReliable t sent = .stall ∧ txStep s = .stall) ∨
           (∃ t' sent', txReliable t sent = .on t' sent' ∧ txStep s = txOwedAck t' sent'))))) := by
  by_cases hw : s.work = true
  · right
    refine ⟨hw, ?_⟩
    cases h : txUnreliable s with
    | stop t => left; exact ⟨t, rfl, by simp [txStep, hw, h]⟩
    | stall => right; left; exact ⟨rfl, by simp [txStep, hw, h]⟩
    | on t sent =>
      right; right
      refine ⟨t, sent, rfl, ?_⟩
      cases h' : txReliable t sent with
      | stop t' => left; exact ⟨t', rfl, by simp [txStep, hw, h, h']⟩
      | stall => right; left; exact ⟨rfl, by simp [txStep, hw, h, h']⟩
      | on t' sent' => right; right; exact ⟨t', sent', rfl, by simp [txStep, hw, h, h']⟩
  · left; exact ⟨by simpa using hw, by simp [txStep, hw]⟩

end Sys2Proof.Machine
end

