-- ==== Sys2Proof/Laws/Transmit.lean ====
section
/-! SUPPORT. What sending leaves alone: one frame, one iteration of the worker, a WAKEUP, and RUN, however they end. -/

namespace Sys2Proof.Machine

/-- The state a flow ends in, where it ends. -/
def Flow.ends : Flow → Option State
  | .go s => some s
  | .abandoned s => some s
  | .stop s => some s
  | .stall => none

/-- An operation that answers a next state has run to an end, and only its answer is added. -/
theorem outcome_next {f : Flow} {a : Answer} {t : State} (h : f.outcome a = .next t) :
    ∃ u b, f.ends = some u ∧ t = u.answering b := by
  cases f with
  | go u => exact ⟨u, a, rfl, by simpa using h.symm⟩
  | abandoned u => exact ⟨u, .allocFailed, rfl, by simpa using h.symm⟩
  | stop u => exact ⟨u, .faulted, rfl, by simpa using h.symm⟩
  | stall => simp at h

/-- What sending one frame never changes, however it ends (R273, R443, R446). -/
structure Sent (s t : State) : Prop where
  params : t.params = s.params
  ack : t.ack = s.ack
  rack : t.rack = s.rack
  credit : t.credit = s.credit
  retryCount : t.retryCount = s.retryCount
  window : t.window = s.window
  useCrc : t.useCrc = s.useCrc
  swFlow : t.swFlow = s.swFlow
  cfgPeer : t.cfgPeer = s.cfgPeer
  localState : t.localState = s.localState
  peerState : t.peerState = s.peerState
  wakeupPending : t.wakeupPending = s.wakeupPending
  guardWait : t.guardWait = s.guardWait
  workerScheduled : t.workerScheduled = s.workerScheduled
  alive : t.alive = s.alive
  rtxWork : t.rtxWork = s.rtxWork
  wakeWork : t.wakeWork = s.wakeWork
  rtxTimer : t.rtxTimer = s.rtxTimer
  wakeTimer : t.wakeTimer = s.wakeTimer
  unrelQ : t.unrelQ = s.unrelQ
  relQ : t.relQ = s.relQ
  sentQ : t.sentQ = s.sentQ
  collector : t.collector = s.collector
  h4Collector : t.h4Collector = s.h4Collector
  upRx : t.upRx = s.upRx
  events : t.events = s.events
  answer : t.answer = s.answer
  freeCount : t.freeCount = s.freeCount
  phyTx : s.phyTx <+: t.phyTx
  faults : s.faults <+: t.faults
  allocDraws : t.allocDraws <:+ s.allocDraws
  sinkDraws : t.sinkDraws <:+ s.sinkDraws

/-- Everything TX.FRAME leaves alone, however it ends (R273). -/
theorem txFrame_sent {u : QUnit} {r : Bool} {s t : State} (h : (txFrame u r s).ends = some t) : Sent s t := by
  rcases txFrame_cases u r s with ⟨_, e⟩ | ⟨_, _, e⟩ | ⟨_, _, ds, hd, e⟩ | ⟨_, _, n, ds, _, hd, e⟩ | ⟨e, _⟩ <;>
    rw [e] at h <;> simp only [Flow.ends, Option.some.injEq, reduceCtorEq] at h
  all_goals subst h
  all_goals
    constructor <;>
      first | rfl | exact hd | exact List.suffix_refl _ | exact List.tail_suffix _ | exact List.prefix_append _ _

/-- What no operation of the transmit path changes, however it ends (R272, R368, R366), and the growth of the two traces
it may add to. -/
structure Transmitted (s t : State) : Prop where
  params : t.params = s.params
  ack : t.ack = s.ack
  rack : t.rack = s.rack
  retryCount : t.retryCount = s.retryCount
  window : t.window = s.window
  useCrc : t.useCrc = s.useCrc
  swFlow : t.swFlow = s.swFlow
  cfgPeer : t.cfgPeer = s.cfgPeer
  localState : t.localState = s.localState
  peerState : t.peerState = s.peerState
  alive : t.alive = s.alive
  rtxWork : t.rtxWork = s.rtxWork
  collector : t.collector = s.collector
  h4Collector : t.h4Collector = s.h4Collector
  upRx : t.upRx = s.upRx
  events : t.events = s.events
  answer : t.answer = s.answer
  freeCount : t.freeCount = s.freeCount
  phyTx : s.phyTx <+: t.phyTx
  faults : s.faults <+: t.faults
  allocDraws : t.allocDraws <:+ s.allocDraws
  sinkDraws : t.sinkDraws <:+ s.sinkDraws

theorem Transmitted.refl (s : State) : Transmitted s s := by
  constructor <;> rfl

theorem Transmitted.trans {s t u : State} (h : Transmitted s t) (k : Transmitted t u) : Transmitted s u where
  params := k.params.trans h.params
  ack := k.ack.trans h.ack
  rack := k.rack.trans h.rack
  retryCount := k.retryCount.trans h.retryCount
  window := k.window.trans h.window
  useCrc := k.useCrc.trans h.useCrc
  swFlow := k.swFlow.trans h.swFlow
  cfgPeer := k.cfgPeer.trans h.cfgPeer
  localState := k.localState.trans h.localState
  peerState := k.peerState.trans h.peerState
  alive := k.alive.trans h.alive
  rtxWork := k.rtxWork.trans h.rtxWork
  collector := k.collector.trans h.collector
  h4Collector := k.h4Collector.trans h.h4Collector
  upRx := k.upRx.trans h.upRx
  events := k.events.trans h.events
  answer := k.answer.trans h.answer
  freeCount := k.freeCount.trans h.freeCount
  phyTx := h.phyTx.trans k.phyTx
  faults := h.faults.trans k.faults
  allocDraws := k.allocDraws.trans h.allocDraws
  sinkDraws := k.sinkDraws.trans h.sinkDraws

theorem Sent.transmitted {s t : State} (h : Sent s t) : Transmitted s t :=
  ⟨h.params, h.ack, h.rack, h.retryCount, h.window, h.useCrc, h.swFlow, h.cfgPeer, h.localState, h.peerState, h.alive,
    h.rtxWork, h.collector, h.h4Collector, h.upRx, h.events, h.answer, h.freeCount, h.phyTx, h.faults, h.allocDraws,
    h.sinkDraws⟩

/-- The state an iteration of the worker has come to. -/
def Iteration.ends : Iteration → Option State
  | .on s _ => some s
  | .stop s => some s
  | .stall => none

theorem txUnreliable_transmitted {s t : State} (h : (txUnreliable s).ends = some t) : Transmitted s t := by
  rcases txUnreliable_cases s with ⟨_, e⟩ | ⟨u, q, _, _, ⟨y, a, e⟩ | ⟨y, a, e⟩ | ⟨y, a, e⟩ | ⟨_, e⟩⟩ <;> rw [e] at h <;>
    simp only [Iteration.ends, Option.some.injEq, reduceCtorEq] at h
  all_goals subst h
  · exact .refl s
  all_goals
    have k := (txFrame_sent (by rw [a]; rfl : (txFrame u false { s with unrelQ := q }).ends = some y)).transmitted
    exact ⟨k.params, k.ack, k.rack, k.retryCount, k.window, k.useCrc, k.swFlow, k.cfgPeer, k.localState, k.peerState,
      k.alive, k.rtxWork, k.collector, k.h4Collector, k.upRx, k.events, k.answer, k.freeCount, k.phyTx, k.faults,
      k.allocDraws, k.sinkDraws⟩

theorem txReliable_transmitted {s t : State} {b : Bool} (h : (txReliable s b).ends = some t) : Transmitted s t := by
  rcases txReliable_cases s b with ⟨_, e⟩ | ⟨u, q, _, _, ⟨y, a, e⟩ | ⟨y, a, e⟩ | ⟨y, a, e⟩ | ⟨_, e⟩⟩ <;> rw [e] at h <;>
    simp only [Iteration.ends, Option.some.injEq, reduceCtorEq] at h
  all_goals subst h
  · exact .refl s
  all_goals
    have k := (txFrame_sent (by rw [a]; rfl : (txFrame u true { s with relQ := q }).ends = some y)).transmitted
    exact ⟨k.params, k.ack, k.rack, k.retryCount, k.window, k.useCrc, k.swFlow, k.cfgPeer, k.localState, k.peerState,
      k.alive, k.rtxWork, k.collector, k.h4Collector, k.upRx, k.events, k.answer, k.freeCount, k.phyTx, k.faults,
      k.allocDraws, k.sinkDraws⟩

theorem txOwedAck_transmitted {s t : State} {b : Bool} (h : (txOwedAck s b).ends = some t) : Transmitted s t := by
  rcases txOwedAck_cases s b with ⟨_, e⟩ | ⟨_, ⟨y, a, e⟩ | ⟨y, a, e⟩ | ⟨y, a, e⟩ | ⟨_, e⟩⟩ <;> rw [e] at h <;>
    simp only [Flow.ends, Option.some.injEq, reduceCtorEq] at h
  all_goals subst h
  · exact .refl s
  all_goals exact (txFrame_sent (by rw [a]; rfl : (txFrame ackUnit false s).ends = some y)).transmitted

/-- Everything TX.STEP leaves alone, however it ends (R272). -/
theorem txStep_transmitted {s t : State} (h : (txStep s).ends = some t) : Transmitted s t := by
  rcases txStep_cases s with ⟨_, e⟩ | ⟨_, ⟨v, e1, e⟩ | ⟨_, e⟩ | ⟨v, b, e1, ⟨w, e2, e⟩ | ⟨_, e⟩ | ⟨w, b', e2, e⟩⟩⟩ <;>
    rw [e] at h
  · simp only [Flow.ends, Option.some.injEq] at h; subst h
    constructor <;> rfl
  · simp only [Flow.ends, Option.some.injEq] at h; subst h
    exact txUnreliable_transmitted (by rw [e1]; rfl)
  · simp [Flow.ends] at h
  · simp only [Flow.ends, Option.some.injEq] at h; subst h
    exact (txUnreliable_transmitted (t := v) (by rw [e1]; rfl)).trans (txReliable_transmitted (b := b) (by rw [e2]; rfl))
  · simp [Flow.ends] at h
  · exact ((txUnreliable_transmitted (t := v) (by rw [e1]; rfl)).trans
      (txReliable_transmitted (b := b) (t := w) (by rw [e2]; rfl))).trans (txOwedAck_transmitted h)

/-- Everything PWR.SEND_WAKEUP leaves alone, however it ends (R370). -/
theorem sendWakeup_transmitted {s t : State} (h : (sendWakeup s).ends = some t) : Transmitted s t := by
  rcases sendWakeup_cases s with ⟨y, a, e⟩ | ⟨y, a, e⟩ | ⟨y, a, e⟩ | ⟨_, e⟩ <;> rw [e] at h <;>
    simp only [Flow.ends, Option.some.injEq, reduceCtorEq] at h
  all_goals subst h
  all_goals
    have k := (txFrame_sent (by rw [a]; rfl : (txFrame wakeupUnit false s).ends = some y)).transmitted
    exact ⟨k.params, k.ack, k.rack, k.retryCount, k.window, k.useCrc, k.swFlow, k.cfgPeer, k.localState, k.peerState,
      k.alive, k.rtxWork, k.collector, k.h4Collector, k.upRx, k.events, k.answer, k.freeCount, k.phyTx, k.faults,
      k.allocDraws, k.sinkDraws⟩

/-- Everything RUN leaves alone, however it ends (R147). -/
theorem runLoop_transmitted {n : Nat} {s t : State} (h : (runLoop n s).ends = some t) : Transmitted s t := by
  induction n generalizing s with
  | zero => simp only [runLoop, Flow.ends, Option.some.injEq] at h; subst h; exact .refl s
  | succ n ih =>
    rw [runLoop] at h
    split at h
    · cases e : txStep s with
      | go u => rw [e, Flow.andThen_go] at h; exact (txStep_transmitted (by rw [e]; rfl)).trans (ih h)
      | abandoned u => rw [e] at h; exact txStep_transmitted (by rw [e]; exact h)
      | stop u => rw [e] at h; exact txStep_transmitted (by rw [e]; exact h)
      | stall => rw [e] at h; simp [Flow.ends] at h
    · simp only [Flow.ends, Option.some.injEq] at h; subst h; exact .refl s

/-- Everything WAKE.WORK leaves alone, however it ends (R366). -/
theorem wakeWork_transmitted {s t : State} (h : (wakeWork s).ends = some t) : Transmitted s t := by
  unfold wakeWork at h
  split at h
  · have k := sendWakeup_transmitted h
    exact ⟨k.params, k.ack, k.rack, k.retryCount, k.window, k.useCrc, k.swFlow, k.cfgPeer, k.localState, k.peerState,
      k.alive, k.rtxWork, k.collector, k.h4Collector, k.upRx, k.events, k.answer, k.freeCount, k.phyTx, k.faults,
      k.allocDraws, k.sinkDraws⟩
  · simp only [Flow.ends, Option.some.injEq] at h; subst h
    constructor <;> rfl

/-- Everything PHY.WRITE leaves alone, however it ends (R397). -/
theorem writeSink_sent {bs : Bytes} {s t : State} (h : (writeSink bs s).ends = some t) : Sent s t := by
  rcases writeSink_cases bs s with ⟨ds, e, hd⟩ | ⟨n, ds, _, e, hd⟩ | ⟨e, _⟩ <;>
    rw [e] at h <;> simp only [Flow.ends, Option.some.injEq, reduceCtorEq] at h
  all_goals subst h
  all_goals constructor <;> first | rfl | exact hd | exact List.prefix_append _ _

end Sys2Proof.Machine
end

