-- ==== Sys2Proof/Tests/Slice0.lean ====
section
/-! SUPPORT. The model's own tests: terms each well-formedness check refuses, the decoding of words written out from the
tables of 30_encoding.md, one step of each operation against the vectors of 95_test_vectors.md (their numbers stand at
the tests), and for every statement with hypotheses a state and operands that meet them. -/

namespace Sys2Proof.Tests

open Sys2Proof.Machine

/-! ### Ill-formed terms -/

theorem test_wf_slipDecode_short : (Instr.slipDecode [0xC0]).wf = false := by decide
theorem test_wf_slipDecode_start : (Instr.slipDecode [0x01, 0xC0]).wf = false := by decide
theorem test_wf_slipDecode_stop : (Instr.slipDecode [0xC0, 0x01]).wf = false := by decide
theorem test_wf_slipDecode_inside : (Instr.slipDecode [0xC0, 0x01, 0xC0, 0x02, 0xC0]).wf = false := by decide
theorem test_wf_slipCollect_buffer : (Instr.slipCollect (some [0x01]) []).wf = false := by decide
theorem test_wf_slipResync_index : (Instr.slipResync [0x01] 2).wf = false := by decide
theorem test_wf_linkSend_cfg : (Instr.linkSend .sync (some 0x14)).wf = false := by decide
theorem test_wf_peer_length : (Instr.peer ⟨2, true, 0, 0, false, List.replicate 4096 0, false⟩).wf = false := by
  decide +kernel
theorem test_wf_sysInit_window_low : (Instr.sysInit { Config.params with w0 := 0 }).wf = false := by decide
theorem test_wf_sysInit_window_high : (Instr.sysInit { Config.params with w0 := 8 }).wf = false := by decide
theorem test_wf_sysInit_short : (Instr.sysInit { Config.params with chain := [.physicalSink] }).wf = false := by decide
theorem test_wf_sysInit_first :
    (Instr.sysInit { Config.params with chain := [.bcsp, .physicalSink] }).wf = false := by decide
theorem test_wf_sysInit_last : (Instr.sysInit { Config.params with chain := [.consumer, .bcsp] }).wf = false := by decide
theorem test_wf_slipBadEsc :
    ∀ x ∈ ([0xDC, 0xDD, 0xDE, 0xDF] : Bytes), (Instr.slipBadEsc (some x)).wf = false := by decide
theorem test_wf_slipLit : ∀ b ∈ ([0xC0, 0xDB] : Bytes), (Instr.slipLit b).wf = false := by decide
theorem test_wf_lcUnknown :
    ∀ p ∈ ([[0x01, 0x7E], [0x02, 0x7D], [0x03, 0xFC], [0x04, 0x7B], [0x05, 0xFA], [0x06, 0xF9], [0x07, 0x78],
      [0x03, 0xFC, 0x14], [0x04, 0x7B, 0x14]] : List Bytes), (Instr.lcUnknown p).wf = false := by decide
theorem test_wf_h4Unknown : ∀ t ∈ ([1, 2, 4, 5] : Bytes), (Instr.h4Unknown t []).wf = false := by decide

/-! ### Words written out from the encodings (R131, R134, R137, R139, R140, R142) -/

theorem test_decode_slipEnd : decode .slip [0xC0] = .ok .slipEnd := by decide
theorem test_decode_slipEscEnd : decode .slip [0xDB, 0xDC] = .ok .slipEscEnd := by decide
theorem test_decode_slipEscEsc : decode .slip [0xDB, 0xDD] = .ok .slipEscEsc := by decide
theorem test_decode_slipEscXon : decode .slip [0xDB, 0xDE] = .ok .slipEscXon := by decide
theorem test_decode_slipEscXoff : decode .slip [0xDB, 0xDF] = .ok .slipEscXoff := by decide
theorem test_decode_slipBadEsc : decode .slip [0xDB, 0x41] = .ok (.slipBadEsc (some 0x41)) := by decide
theorem test_decode_slipBadEsc_alone : decode .slip [0xDB] = .ok (.slipBadEsc none) := by decide
theorem test_decode_slipLit : decode .slip [0x11] = .ok (.slipLit 0x11) := by decide

/-- `b0` = reliable 1, crc 0, ack 5, seq 3; `b1` = length[3:0] 0x3 over the type; `b2` = length[11:4] 0x12. -/
def word (type : BitVec 4) : Bytes := [0b1_0_101_011, 0b0011_0000 ||| type.setWidth 8, 0b0001_0010, 0x5A]
/-- The fields of `word`, the payload behind it not being looked at. -/
def wordFields : HdrFields := ⟨3, 5, false, true, 0x123, 0x5A⟩

theorem test_decode_bcspAck : decode .bcsp (word 0) = .ok (.bcspAck wordFields []) := by decide
theorem test_decode_bcspCmd : decode .bcsp (word 1) = .ok (.bcspCmd wordFields []) := by decide
theorem test_decode_bcspAcl : decode .bcsp (word 2) = .ok (.bcspAcl wordFields []) := by decide
theorem test_decode_bcspRsvd3 : decode .bcsp (word 3) = .ok (.bcspRsvd3 wordFields []) := by decide
theorem test_decode_bcspEvt : decode .bcsp (word 4) = .ok (.bcspEvt wordFields []) := by decide
theorem test_decode_bcspIso : decode .bcsp (word 5) = .ok (.bcspIso wordFields []) := by decide
theorem test_decode_bcspRsvd6 : decode .bcsp (word 6) = .ok (.bcspRsvd6 wordFields []) := by decide
theorem test_decode_bcspRsvd7 : decode .bcsp (word 7) = .ok (.bcspRsvd7 wordFields []) := by decide
theorem test_decode_bcspRsvd8 : decode .bcsp (word 8) = .ok (.bcspRsvd8 wordFields []) := by decide
theorem test_decode_bcspRsvd9 : decode .bcsp (word 9) = .ok (.bcspRsvd9 wordFields []) := by decide
theorem test_decode_bcspRsvd10 : decode .bcsp (word 10) = .ok (.bcspRsvd10 wordFields []) := by decide
theorem test_decode_bcspRsvd11 : decode .bcsp (word 11) = .ok (.bcspRsvd11 wordFields []) := by decide
theorem test_decode_bcspRsvd12 : decode .bcsp (word 12) = .ok (.bcspRsvd12 wordFields []) := by decide
theorem test_decode_bcspRsvd13 : decode .bcsp (word 13) = .ok (.bcspRsvd13 wordFields []) := by decide
theorem test_decode_bcspVnd : decode .bcsp (word 14) = .ok (.bcspVnd wordFields []) := by decide
theorem test_decode_bcspLink : decode .bcsp (word 15) = .ok (.bcspLink wordFields []) := by decide
theorem test_decode_bcsp_crc_bit :
    decode .bcsp [0b0_1_000_000, 0, 0, 0, 0x77] = .ok (.bcspAck ⟨0, 0, true, false, 0, 0⟩ [0x77]) := by decide
theorem test_decode_bcsp_short : decode .bcsp [0x00, 0x10, 0x00] = .error .shortHeader := by decide

theorem test_decode_lcSync : decode .lc [0x01, 0x7E] = .ok .lcSync := by decide
theorem test_decode_lcSyncResp : decode .lc [0x02, 0x7D] = .ok .lcSyncResp := by decide
theorem test_decode_lcConf : decode .lc [0x03, 0xFC] = .ok .lcConf := by decide
theorem test_decode_lcConfResp : decode .lc [0x04, 0x7B] = .ok .lcConfResp := by decide
theorem test_decode_lcWakeup : decode .lc [0x05, 0xFA] = .ok .lcWakeup := by decide
theorem test_decode_lcWoken : decode .lc [0x06, 0xF9] = .ok .lcWoken := by decide
theorem test_decode_lcSleep : decode .lc [0x07, 0x78] = .ok .lcSleep := by decide
theorem test_decode_lcConfCfg : decode .lc [0x03, 0xFC, 0x14] = .ok (.lcConfCfg 0x14) := by decide
theorem test_decode_lcConfRespCfg : decode .lc [0x04, 0x7B, 0x0A] = .ok (.lcConfRespCfg 0x0A) := by decide
theorem test_decode_lcUnknown : decode .lc [0x01, 0x7E, 0x00] = .ok (.lcUnknown [0x01, 0x7E, 0x00]) := by decide
theorem test_decode_cfg : decode .cfg [0b1_11_0_1_101] = .ok (.cfg 5 true false 3) := by decide
theorem test_decode_h4Cmd : decode .h4t [0x01, 0x03] = .ok (.h4Cmd [0x03]) := by decide
theorem test_decode_h4Acl : decode .h4t [0x02] = .ok (.h4Acl []) := by decide
theorem test_decode_h4Evt : decode .h4t [0x04, 0x0E] = .ok (.h4Evt [0x0E]) := by decide
theorem test_decode_h4Iso : decode .h4t [0x05] = .ok (.h4Iso []) := by decide
theorem test_decode_h4Unknown : decode .h4t [0x03, 0x01] = .ok (.h4Unknown 0x03 [0x01]) := by decide
theorem test_decodeTableWord : decodeTableWord 32 0xFF000000 = some (.bcspAck ⟨0, 0, false, false, 0, 0xFF⟩ []) := by
  decide
theorem test_decodeTableWord_order : decodeTableWord 16 0x7E01 = some .lcSync := by decide

/-! ### One step of each operation (95_test_vectors.md) -/

/-- The base state of 95_test_vectors.md, 2.5. -/
def active : State := { State.reset with localState := .active, peerState := .active, rtxTimer := .idle }
/-- The reset state with other parameters. -/
def fresh (p : Params) : State := State.resetWith p
/-- The base state with the H4 chain. -/
def h4 : State := { active with params := { Config.params with chain := Config.h4Chain } }
/-- A command unit. -/
def cmd : QUnit := ⟨.cmd, [0x03, 0x0C, 0x00]⟩
/-- A command unit of one byte. -/
def unit (b : Byte) : QUnit := ⟨.cmd, [b]⟩
/-- The next state, where there is one. -/
def after (i : Instr) (s : State) : Option State :=
  match exec i s with
  | .next t => some t
  | .fault _ => none
  | .refused _ => none
/-- What one operation returns, and one thing it leaves. -/
def seen {α : Type} (f : State → α) (i : Instr) (s : State) : Option (Answer × α) :=
  (after i s).map fun t => (t.answer, f t)

-- S3, S4
theorem test_slipEncode : seen (·.phyTx) (.slipEncode [0x00, 0xC0, 0xDB, 0x11] true) active =
    some (.bytes [0xC0, 0x00, 0xDB, 0xDC, 0xDB, 0xDD, 0xDB, 0xDE, 0xC0], []) := by decide
theorem test_slipEncode_flow : seen (·.seq) (.slipEncode [0x11, 0x13] false) active =
    some (.bytes [0xC0, 0x11, 0x13, 0xC0], 0) := by decide
-- S8, S9
theorem test_slipDecode : seen (·.seq) (.slipDecode [0xC0, 0xDB, 0x41, 0xDB, 0xC0]) active =
    some (.bytes [0xDB, 0x41, 0xDB], 0) := by decide
theorem test_slipDecode_pair : seen (·.seq) (.slipDecode [0xC0, 0xDB, 0xDB, 0xDC, 0xC0]) active =
    some (.bytes [0xDB, 0xC0], 0) := by decide
-- S15, S19
theorem test_slipCollect : seen (·.faults) (.slipCollect none [0x55, 0xC0, 0xC0, 1, 2, 0xC0, 0xC0, 3]) active =
    some (.collected (some [0xC0, 1, 2, 0xC0]) 6 true, []) := by decide
theorem test_slipCollect_alloc :
    seen (·.faults) (.slipCollect (some [0xC0, 5]) [6, 7, 0xC0, 0xC0, 8, 0xC0]) { active with allocDraws := [false] } =
      some (.collected (some [0xC0, 8, 0xC0]) 6 true, [.alloc]) := by decide
-- the part of S19 after the failed byte
theorem test_slipResync_halted : seen (·.faults) (.slipResync [6, 0xC0] 1) { active with halted := true } =
    some (.notEnabled, []) := by decide
theorem test_slipResync : seen (·.faults) (.slipResync [6, 7, 0xC0, 0xC0, 8, 0xC0] 1) active =
    some (.collected (some [0xC0, 8, 0xC0]) 6 true, [.alloc]) := by decide
-- C2, C7
theorem test_crcUpdate : seen (·.seq) (.crcUpdate 0xFFFF 0x01) active = some (.word 0x1E0E, 0) := by decide
theorem test_crcUpdate_top : seen (·.seq) (.crcUpdate 0x0000 0x80) active = some (.word 0x8408, 0) := by decide
-- C8, C12
theorem test_crc16_empty : seen (·.seq) (.crc16 []) active = some (.word 0xFFFF, 0) := by decide
theorem test_crc16 : seen (·.seq) (.crc16 [0x31, 0x32, 0x33, 0x34, 0x35, 0x36, 0x37, 0x38, 0x39]) active =
    some (.word 0x89F6, 0) := by decide +kernel
-- C17
theorem test_crc16_halted : seen (·.seq) (.crc16 [0x31]) { active with halted := true } = some (.notEnabled, 0) := by decide
theorem test_hdrChecksum : seen (·.seq) (.hdrChecksum 0xFF 0xFF 0xFF) active = some (.byte 0x02, 0) := by decide
-- B10, B18
theorem test_bcspPack : seen (·.seq) (.bcspPack [0x03, 0x0C, 0x00] 1 true 5 true) { active with seq := 3 } =
    some (.bytes [0xEB, 0x31, 0x00, 0xE3, 0x03, 0x0C, 0x00, 0xB7, 0xCC], 4) := by decide +kernel
theorem test_bcspPack_unreliable : seen (·.seq) (.bcspPack [0x0E, 0x00] 4 false 0 false) { active with seq := 3 } =
    some (.bytes [0x00, 0x24, 0x00, 0xDB, 0x0E, 0x00], 3) := by decide
-- B20, B29
theorem test_bcspUnpack : seen (·.ack) (.bcspUnpack [0x88, 0x64, 0x00, 0x13, 0x0E, 0x04, 0x01, 0x03, 0x0C, 0x00]) active =
    some (.unpacked (.ok ⟨0, 1, false, true, 4, 6⟩ [0x0E, 0x04, 0x01, 0x03, 0x0C, 0x00]), 0) := by decide
theorem test_bcspUnpack_crc :
    seen (·.ack) (.bcspUnpack [0xC1, 0x52, 0x00, 0xEC, 0x02, 0x00, 0x01, 0x00, 0x98, 0x32, 0x47]) active =
      some (.unpacked .crcError, 0) := by decide +kernel
-- A21
theorem test_arqClassify : seen (·.seq) (.arqClassify .iso) active = some (.classified 5 true, 0) := by decide
-- A1, F10
theorem test_upSend : seen (fun t => (t.relQ, t.workerScheduled)) (.upSend .cmd [0x03, 0x0C, 0x00]) (fresh Config.params) =
    some (.done, [cmd], true) := by decide
theorem test_upSend_alloc : seen (fun t => (t.relQ, t.faults)) (.upSend .cmd [0x03, 0x0C, 0x00])
    { active with allocDraws := [false] } = some (.allocFailed, [], [.alloc]) := by decide
-- A4, X8
theorem test_txStep : seen (fun t => (t.phyTx, t.sentQ)) .txStep { active with relQ := [cmd], workerScheduled := true } =
    some (.done, [0xC0, 0x80, 0x31, 0x00, 0x4E, 0x03, 0x0C, 0x00, 0xC0], [cmd]) := by decide
theorem test_txStep_write : seen (fun t => (t.seq, t.relQ ++ t.sentQ)) .txStep { active with
    relQ := [cmd], workerScheduled := true, sinkDraws := [.hardError, .hardError] } = some (.faulted, 1, []) := by
  decide
-- B18 on the wire
theorem test_txFrame : seen (·.phyTx) (.txFrame ⟨.evt, [0x0E, 0x00]⟩ false) active =
    some (.done, [0xC0, 0x00, 0x24, 0x00, 0xDB, 0xDD, 0x0E, 0x00, 0xC0]) := by decide
-- B12
theorem test_txAckFrame : seen (fun t => (t.phyTx, t.ackRequired)) .txAckFrame { active with ack := 3, ackRequired := true } =
    some (.done, [0xC0, 0x18, 0x00, 0x00, 0xE7, 0xC0], false) := by decide
-- R277's example, F2
theorem test_rxFrame : seen (fun t => (t.upRx, t.ack, t.rack)) (.rxFrame [0x88, 0x64, 0x00, 0x13, 0x0E, 0x04, 0x01, 0x03,
    0x0C, 0x00]) { active with seq := 1, sentQ := [cmd], credit := 3 } =
    some (.done, [⟨.evt, [0x0E, 0x04, 0x01, 0x03, 0x0C, 0x00]⟩], 1, 1) := by decide
theorem test_rxFrame_checksum : seen (·.faults) (.rxFrame [0xC9, 0x52, 0x00, 0xEC, 0x02, 0x00, 0x01, 0x00, 0x99, 0x32,
    0x47]) active = some (.done, [.checksum .header]) := by decide
-- R278's example, F7
theorem test_arqRxSeq : seen (·.ack) (.arqRxSeq 7) { active with ack := 7 } = some (.sequence true, 0) := by decide
theorem test_arqRxSeq_mismatch : seen (fun t => (t.ack, t.faults)) (.arqRxSeq 1) { active with ack := 2 } =
    some (.sequence false, 2, [.outOfSequence 1 2]) := by decide
-- A6, A8
theorem test_arqRxAck : seen (fun t => (t.sentQ, t.credit)) (.arqRxAck 4) { active with
    seq := 5, rack := 2, credit := 1, sentQ := [unit 2, unit 3, unit 4] } = some (.done, [unit 4], 3) := by decide
theorem test_arqRxAck_never_sent : seen (fun t => (t.sentQ, t.rack)) (.arqRxAck 7) { active with
    seq := 5, rack := 4, credit := 3, sentQ := [unit 4] } = some (.done, [unit 4], 4) := by decide
-- R280's example, A16
theorem test_arqDeliver : seen (·.upRx) (.arqDeliver ⟨0, 0, false, true, 4, 2⟩ [0x0E, 0x00] true) active =
    some (.done, [⟨.evt, [0x0E, 0x00]⟩]) := by decide
theorem test_arqDeliver_reserved : seen (·.upRx) (.arqDeliver ⟨0, 0, false, true, 3, 2⟩ [0x01, 0x02] true) active =
    some (.done, []) := by decide
-- A19
theorem test_rtxFire : seen (fun t => (t.rtxTimer, t.rtxWork)) .rtxFire { active with rtxTimer := .armed } =
    some (.done, .idle, true) := by decide
-- A19, L8
theorem test_rtxWork_stale : seen (fun t => (t.rtxWork, t.retryCount)) .rtxWork { active with rtxWork := true } =
    some (.done, false, 0) := by decide
theorem test_rtxWork_wait : seen (·.unrelQ) .rtxWork { active with rtxWork := true, localState := .waitPeerActive } =
    some (.done, []) := by decide
-- L1, A10
theorem test_rtxTimeout : seen (fun t => (t.unrelQ, t.rtxTimer)) .rtxTimeout State.reset =
    some (.done, [⟨.link, [0x01, 0x7E]⟩], .armed) := by decide
theorem test_rtxTimeout_reload : seen (fun t => (t.seq, t.relQ)) .rtxTimeout { active with
    seq := 5, rack := 2, credit := 1, sentQ := [unit 2, unit 3], relQ := [unit 5], rtxTimer := .armed } =
    some (.done, 3, [unit 2, unit 3, unit 5]) := by decide
-- A20
theorem test_arqTimeout : seen (fun t => (t.faults, t.halted)) .arqTimeout { active with
    retryCount := 1, seq := 1, sentQ := [cmd] } = some (.done, [.retryLimit 1], true) := by decide
-- R284's example
theorem test_arqReload : seen (fun t => (t.seq, t.relQ)) .arqReload { active with
    seq := 5, rack := 2, credit := 1, sentQ := [unit 2, unit 3, unit 4] } =
    some (.done, 2, [unit 2, unit 3, unit 4]) := by decide
-- L17, L16
theorem test_linkDispatch : seen (fun t => (t.unrelQ, t.faults)) (.linkDispatch .unknown) active =
    some (.done, [], []) := by decide
theorem test_linkDispatch_sync : seen (·.faults) (.linkDispatch .sync) active =
    some (.done, [.protocolSyncWhileActive]) := by decide
-- L5
theorem test_linkTimeout : seen (·.unrelQ) .linkTimeout { fresh { Config.params with c0 := true } with
    localState := .initialized } = some (.done, [⟨.link, [0x03, 0xFC, 0x14]⟩]) := by decide
-- L3, L7
theorem test_linkRxSync : seen (·.unrelQ) .linkRxSync State.reset = some (.done, [⟨.link, [0x02, 0x7D]⟩]) := by decide
theorem test_linkRxSync_wait : seen (·.unrelQ) .linkRxSync { State.reset with localState := .waitPeerActive } =
    some (.done, []) := by decide
-- L4, L18
theorem test_linkRxSyncResp : seen (fun t => (t.unrelQ, t.localState)) .linkRxSyncResp
    (fresh { Config.params with c0 := true }) = some (.done, [⟨.link, [0x03, 0xFC, 0x14]⟩], .initialized) := by decide
theorem test_linkRxSyncResp_late : seen (·.unrelQ) .linkRxSyncResp { State.reset with localState := .initialized } =
    some (.done, []) := by decide
-- L10, L9
theorem test_linkRxConf : seen (fun t => (t.unrelQ, t.peerState)) (.linkRxConf (some 0x14)) { State.reset with
    localState := .initialized } = some (.done, [⟨.link, [0x04, 0x7B, 0x14]⟩], .active) := by decide
theorem test_linkRxConf_commits : seen (fun t => (t.localState, t.window, t.swFlow)) (.linkRxConf (some 0x0A)) { State.reset with
    localState := .waitPeerActive } = some (.done, .active, 4, false) := by decide
-- L6, L11
theorem test_linkRxConfResp : seen (fun t => (t.localState, t.cfgPeer)) (.linkRxConfResp (some 0x14)) { State.reset with
    localState := .initialized } = some (.done, .waitPeerActive, some 0x14) := by decide
theorem test_linkRxConfResp_commits : seen (fun t => (t.localState, t.window, t.swFlow)) (.linkRxConfResp (some 0x0A)) { State.reset with
    localState := .initialized, peerState := .active } = some (.done, .active, 2, true) := by decide
-- L14, L13
theorem test_linkEnterActive : seen (fun t => (t.window, t.useCrc)) .linkEnterActive
    { fresh { Config.params with w0 := 3 } with cfgPeer := some 0x10 } = some (.done, 3, true) := by decide
theorem test_linkEnterActive_default : seen (fun t => (t.window, t.swFlow, t.useCrc)) .linkEnterActive
    (fresh { Config.params with w0 := 3, f0 := true, c0 := true }) = some (.done, 3, true, true) := by decide
-- M8
theorem test_linkSend : seen (·.unrelQ) (.linkSend .conf (some 0x14)) active =
    some (.done, [⟨.link, [0x03, 0xFC, 0x14]⟩]) := by decide
-- R330
/-- A policy of its own (R330): the smaller window, for one received byte. -/
theorem test_negotiate_policy :
    seen (·.unrelQ) (.negotiate (some 0x07))
      { active with params := { Config.params with negotiation := [(some 0x07, 0x04, some 0x04)] } } =
      some (.config (some 0x04), []) := by decide
-- R140: bit 7 of an echoed byte is sent as 0
theorem test_linkRxConf_reserved : seen (·.unrelQ) (.linkRxConf (some 0x94)) active =
    some (.done, [⟨.link, [0x04, 0x7B, 0x14]⟩]) := by decide
theorem test_negotiate : seen (·.unrelQ) (.negotiate (some 0x0A)) active = some (.config (some 0x0A), []) := by decide
-- W6, W5
theorem test_pwrRxWakeup : seen (fun t => (t.unrelQ, t.localState)) .pwrRxWakeup { active with localState := .lowPower } =
    some (.done, [⟨.link, [0x06, 0xF9]⟩], .active) := by decide
theorem test_pwrRxWakeup_awake : seen (fun t => (t.unrelQ, t.peerState)) .pwrRxWakeup { active with
    peerState := .lowPower } = some (.done, [], .active) := by decide
-- W4
theorem test_pwrRxWoken : seen (fun t => (t.seq, t.relQ, t.credit)) .pwrRxWoken { active with
    seq := 5, rack := 3, credit := 2, sentQ := [unit 3, unit 4], relQ := [unit 5], peerState := .lowPower } =
    some (.done, 3, [unit 3, unit 4, unit 5], 4) := by decide
-- W1, W2
theorem test_pwrRxSleep : seen (fun t => (t.peerState, t.wakeTimer)) .pwrRxSleep active = some (.done, .lowPower, .idle) := by
  decide
theorem test_pwrRxSleep_desync : seen (·.wakeTimer) .pwrRxSleep { active with
    seq := 5, rack := 3, sentQ := [unit 3, unit 4] } = some (.done, .armed) := by decide
-- W7, W8
theorem test_pwrSleepReq : seen (fun t => (t.unrelQ, t.localState)) .pwrSleepReq active =
    some (.done, [⟨.link, [0x07, 0x78]⟩], .lowPower) := by decide
theorem test_pwrSleepReq_busy : seen (·.localState) .pwrSleepReq { active with relQ := [cmd] } =
    some (.notEnabled, .active) := by decide
-- P3, step 5
theorem test_wakeFire : seen (fun t => (t.wakeTimer, t.wakeWork)) .wakeFire { active with wakeTimer := .armed } =
    some (.done, .idle, true) := by decide
-- W14, P4 step 7
theorem test_wakeWork_awake : seen (fun t => (t.phyTx, t.wakeWork)) .wakeWork { active with wakeWork := true } =
    some (.done, [], false) := by decide
theorem test_wakeWork : seen (·.phyTx) .wakeWork { active with wakeWork := true, peerState := .lowPower, ack := 1 } =
    some (.done, [0xC0, 0x08, 0x2F, 0x00, 0xC8, 0x05, 0xFA, 0xC0]) := by decide
-- W3
theorem test_wakeTimeout : seen (fun t => (t.phyTx, t.wakeTimer)) .wakeTimeout { active with
    wakeTimer := .armed, peerState := .lowPower, ack := 2 } =
    some (.done, [0xC0, 0x10, 0x2F, 0x00, 0xDB, 0xDC, 0x05, 0xFA, 0xC0], .armed) := by decide
-- R368's example, W12
theorem test_txWake : seen (fun t => (t.phyTx, t.relQ)) .txWake { active with
    peerState := .lowPower, relQ := [cmd], workerScheduled := true } =
    some (.done, [0xC0, 0x00, 0x2F, 0x00, 0xD0, 0x05, 0xFA, 0xC0], [cmd]) := by decide
theorem test_txWake_power : seen (·.phyTx) .txWake { active with
    peerState := .lowPower, unrelQ := [⟨.link, [0x06, 0xF9]⟩], workerScheduled := true } = some (.notEnabled, []) := by
  decide
-- P4, step 3
theorem test_guardElapse : seen (fun t => (t.guardWait, t.workerScheduled)) .guardElapse { active with guardWait := true } =
    some (.done, false, true) := by decide
-- W10: an owed acknowledgement stays owed
theorem test_pwrSendWakeup : seen (fun t => (t.phyTx, t.ackRequired)) .pwrSendWakeup { active with
    ack := 1, ackRequired := true } = some (.done, [0xC0, 0x08, 0x2F, 0x00, 0xC8, 0x05, 0xFA, 0xC0], true) := by
  decide
-- A11
theorem test_run : seen (fun t => (t.seq, t.credit, t.workerScheduled)) .run { active with
    seq := 6, rack := 6, relQ := [unit 0, unit 1, unit 2], workerScheduled := true } = some (.done, 1, 1, false) := by
  decide
-- A14
theorem test_peer : seen (fun t => (t.upRx, t.ackRequired)) (.peer ⟨4, false, 0, 0, false, [0x0E, 0x00], false⟩) active =
    some (.count 9, [⟨.evt, [0x0E, 0x00]⟩], false) := by decide
-- X1
theorem test_chainNext : seen (·.seq) (.chainNext 2) active = some (.index none, 0) := by decide
theorem test_chainPrev : seen (·.seq) (.chainPrev 1) active = some (.index (some 0), 0) := by decide
theorem test_chainSendBytes : seen (·.phyTx) (.chainSendBytes [0xC0]) active = some (.done, [0xC0]) := by decide
theorem test_chainRecvFrame : seen (·.upRx) (.chainRecvFrame .acl [0xAA]) active = some (.done, [⟨.acl, [0xAA]⟩]) := by
  decide
-- X2, S18
theorem test_rxBytes : seen (fun t => (t.unrelQ, t.collector)) (.rxBytes [0xD0, 0x01, 0x7E, 0xC0]) { State.reset with
    collector := some [0xC0, 0x00, 0x2F, 0x00] } = some (.count 4, [⟨.link, [0x02, 0x7D]⟩], none) := by decide
theorem test_rxBytes_two : seen (·.unrelQ) (.rxBytes [0xC0, 0x00, 0x2F, 0x00, 0xD0, 0x01, 0x7E, 0xC0, 0xC0, 0x00, 0x2F,
    0x00, 0xD0, 0x01, 0x7E, 0xC0]) State.reset =
    some (.count 16, [⟨.link, [0x02, 0x7D]⟩, ⟨.link, [0x02, 0x7D]⟩]) := by decide
-- X5, X6
theorem test_phyWrite : seen (fun t => (t.phyTx, t.faults)) (.phyWrite [0xC0, 0x08, 0x00, 0x00, 0xF7, 0xC0]) { active with
    sinkDraws := [.accepted 2, .accepted 0, .hardError, .accepted 4] } =
    some (.done, [0xC0, 0x08, 0x00, 0x00, 0xF7, 0xC0], []) := by decide
theorem test_phyWrite_fails : seen (fun t => (t.phyTx, t.faults)) (.phyWrite [0xC0, 0x08, 0x00, 0x00, 0xF7, 0xC0]) { active with
    sinkDraws := [.accepted 3, .hardError, .hardError] } = some (.faulted, [0xC0, 0x08, 0x00], [.write 3]) := by decide
-- H4, H1
theorem test_sizerLen_mask : seen (·.seq) (.sizerLen 0x05 [0x01, 0x00, 0x05, 0xC0]) active =
    some (.sized (.len 9), 0) := by decide
theorem test_sizerLen : seen (·.seq) (.sizerLen 0x02 [0x02, 0x00, 0x05, 0x00]) active = some (.sized (.len 9), 0) := by
  decide
-- H10, H12
theorem test_h4SendFrame : seen (·.phyTx) (.h4SendFrame .cmd [0x03, 0x0C, 0x00]) h4 =
    some (.done, [0x01, 0x03, 0x0C, 0x00]) := by decide
theorem test_h4SendFrame_vendor : seen (·.phyTx) (.h4SendFrame .vnd [0x01]) h4 = some (.refused, []) := by decide
-- H14, H15
theorem test_h4RecvBytes : seen (fun t => (t.upRx, t.h4Collector)) (.h4RecvBytes [0xFF, 0x04, 0x0E, 0x00]) h4 =
    some (.count 4, [⟨.evt, [0x0E, 0x00]⟩], []) := by decide
theorem test_h4RecvBytes_two : seen (·.upRx) (.h4RecvBytes [0x01, 0x03, 0x0C, 0x00, 0x02, 0x02, 0x00, 0x00, 0x00]) h4 =
    some (.count 9, [⟨.cmd, [0x03, 0x0C, 0x00]⟩, ⟨.acl, [0x02, 0x00, 0x00, 0x00]⟩]) := by decide
-- F9, Z2
theorem test_sysInit : seen (fun t => (t.halted, t.rtxTimer, t.ack)) (.sysInit Config.params) { active with
    halted := true, ack := 2 } = some (.done, false, .armed, 0) := by decide
theorem test_sysInit_refused : seen (·.localState) (.sysInit Config.params) active = some (.refused, .active) := by decide
-- Z3, Z4
theorem test_sysTeardown : seen (fun t => (t.alive, t.relQ)) .sysTeardown { active with relQ := [cmd] } =
    some (.done, false, []) := by decide
theorem test_sysTeardown_twice : seen (·.alive) .sysTeardown { active with alive := false } =
    some (.notEnabled, false) := by decide
-- R446
theorem test_raiseFault : seen (fun t => (t.halted, t.faults)) (.raiseFault .crc) active = some (.done, false, [.crc]) := by
  decide

/-! Receipts of single encodings. -/

-- R202: the closing sentinel
theorem test_slipEnd : seen (fun t => (t.unrelQ, t.collector)) .slipEnd { State.reset with
    collector := some [0xC0, 0x00, 0x2F, 0x00, 0xD0, 0x01, 0x7E] } = some (.symbol [], [⟨.link, [0x02, 0x7D]⟩], none) := by
  decide
theorem test_slipEscEnd : seen (·.collector) .slipEscEnd { active with collector := some [0xC0] } =
    some (.symbol [0xC0], some [0xC0, 0xDB, 0xDC]) := by decide
theorem test_slipEscEsc : seen (·.collector) .slipEscEsc { active with collector := some [0xC0] } =
    some (.symbol [0xDB], some [0xC0, 0xDB, 0xDD]) := by decide
theorem test_slipEscXon : seen (·.collector) .slipEscXon { active with collector := some [0xC0] } =
    some (.symbol [0x11], some [0xC0, 0xDB, 0xDE]) := by decide
theorem test_slipEscXoff : seen (·.collector) .slipEscXoff { active with collector := some [0xC0] } =
    some (.symbol [0x13], some [0xC0, 0xDB, 0xDF]) := by decide
theorem test_slipBadEsc : seen (·.collector) (.slipBadEsc (some 0x41)) { active with collector := some [0xC0] } =
    some (.symbol [0xDB, 0x41], some [0xC0, 0xDB, 0x41]) := by decide
theorem test_slipLit : seen (·.collector) (.slipLit 0x05) active = some (.symbol [0x05], none) := by decide
-- A16, A13: the header word 80 2x 00 with its checksum
theorem test_bcspRsvd3 : seen (fun t => (t.upRx, t.ack)) (.bcspRsvd3 ⟨0, 0, false, true, 2, 0x5C⟩ [0x01, 0x02]) active =
    some (.done, [], 1) := by decide
theorem test_bcspEvt : seen (fun t => (t.upRx, t.ack)) (.bcspEvt ⟨0, 0, false, true, 2, 0x5B⟩ [0x0E, 0x00]) active =
    some (.done, [⟨.evt, [0x0E, 0x00]⟩], 1) := by decide
-- A17
theorem test_bcspCmd : seen (fun t => (t.upRx, t.ack)) (.bcspCmd ⟨0, 0, false, true, 3, 0x4E⟩ [0x03, 0x0C, 0x00])
    State.reset = some (.done, [], 0) := by decide
-- A6
theorem test_bcspAck : seen (fun t => (t.sentQ, t.credit)) (.bcspAck ⟨0, 4, false, false, 0, 0xDF⟩ []) { active with
    seq := 5, rack := 2, credit := 1, sentQ := [unit 2, unit 3, unit 4] } = some (.done, [unit 4], 3) := by decide
-- L3, L15, W1
theorem test_lcSync : seen (·.unrelQ) .lcSync State.reset = some (.done, [⟨.link, [0x02, 0x7D]⟩]) := by decide
theorem test_lcConfCfg : seen (·.unrelQ) (.lcConfCfg 0x11) active = some (.done, [⟨.link, [0x04, 0x7B, 0x11]⟩]) := by
  decide
theorem test_lcSleep : seen (·.peerState) .lcSleep active = some (.done, .lowPower) := by decide
-- R326's example
theorem test_cfg : seen (fun t => (t.window, t.useCrc)) (.cfg 4 false true 0) active = some (.done, 4, true) := by decide
-- H13
theorem test_h4Evt : seen (·.h4Collector) (.h4Evt [0x0E, 0x04]) h4 = some (.count 3, [0x04, 0x0E, 0x04]) := by
  decide

/-! ### States and operands that meet the hypotheses of the statements, clause by clause -/

theorem active_inService : active.inService := ⟨rfl, rfl, by decide⟩
theorem reset_inService : State.reset.inService := ⟨rfl, rfl, by decide⟩
theorem h4_inH4Service : h4.inH4Service := ⟨rfl, rfl, by decide⟩
theorem active_established : active.established := .inl rfl
theorem reset_not_established : ¬ State.reset.established := by unfold State.established; decide
theorem active_allocs : active.allocsSucceed := by unfold State.allocsSucceed; decide
theorem active_sink : active.perfectSink := rfl
theorem active_chain : sendsToSink active.params.chain .bcsp = true := by decide

theorem witness_DecodingAnEncoding :
    (Instr.slipBadEsc (some 0xC0)).wf = true ∧ encode (.slipBadEsc (some 0xC0)) = some (.slip, [0xDB, 0xC0]) ∧
    (Instr.bcspRsvd13 wordFields [0x01]).wf = true ∧ encode (.bcspRsvd13 wordFields [0x01]) = some (.bcsp, word 13 ++ [0x01]) ∧
    (Instr.lcUnknown []).wf = true ∧ encode (.lcUnknown []) = some (.lc, []) ∧
    (Instr.cfg 7 true true 3).wf = true ∧ encode (.cfg 7 true true 3) = some (.cfg, [0x7F]) ∧
    (Instr.h4Unknown 0 []).wf = true ∧ encode (.h4Unknown 0 []) = some (.h4t, [0x00]) := by decide

theorem witness_DecodedInstructionEncodes :
    decode .slip [0xDB] = .ok (.slipBadEsc none) ∧ decode .bcsp (word 13) = .ok (.bcspRsvd13 wordFields []) ∧
    decode .lc [] = .ok (.lcUnknown []) ∧ decode .cfg [0xFF] = .ok (.cfg 7 true true 3) ∧
    decode .h4t [0x00] = .ok (.h4Unknown 0 []) := by decide

theorem witness_StepRuns :
    Instr.txStep.wf = true ∧ ({ active with events := [.op .txStep] } : State).events = [.op .txStep] ∧
    ({ active with events := [.wire .cfg [0x14]] } : State).events = [.wire .cfg [0x14]] ∧
    decode .cfg [0x14] = .ok (.cfg 4 false true 0) ∧
    decodeTableWord 8 0x01 = some (.h4Cmd []) ∧ decodeTableWord 16 0xDCDB = some .slipEscEnd ∧
    decodeTableWord 24 0x14FC03 = some (.lcConfCfg 0x14) ∧
    decodeTableWord 32 0xFF000000 = some (.bcspAck ⟨0, 0, false, false, 0, 0xFF⟩ []) := by decide

theorem witness_PortTransactions :
    Config.bcspChain = NodeKind.consumer :: List.replicate 0 NodeKind.consumer ++ NodeKind.bcsp :: [.physicalSink] ∧
    Config.h4Chain = NodeKind.consumer :: List.replicate 0 NodeKind.consumer ++ NodeKind.h4Adapter :: [.physicalSink] ∧
    ([.consumer, .consumer, .physicalSink] : List NodeKind) =
      NodeKind.consumer :: List.replicate 1 NodeKind.consumer ++ NodeKind.physicalSink :: [] ∧
    ([.consumer, .consumer] : List NodeKind) = NodeKind.consumer :: List.replicate 1 NodeKind.consumer ∧
    Config.bcspChain =
      [NodeKind.consumer] ++ NodeKind.bcsp :: List.replicate 0 NodeKind.physicalSink ++ [NodeKind.physicalSink] ∧
    Config.h4Chain =
      [NodeKind.consumer] ++ NodeKind.h4Adapter :: List.replicate 0 NodeKind.physicalSink ++ [NodeKind.physicalSink] ∧
    ([.consumer, .physicalSink, .physicalSink] : List NodeKind) =
      [] ++ NodeKind.consumer :: List.replicate 1 NodeKind.physicalSink ++ [NodeKind.physicalSink] ∧
    ([.physicalSink, .physicalSink] : List NodeKind) =
      List.replicate 1 NodeKind.physicalSink ++ [NodeKind.physicalSink] ∧
    active.events = [] ∧ decode .slip [] = .error .noBytes ∧ decode .bcsp [0, 0, 0] = .error .shortHeader ∧
    decode .cfg [0, 0] = .error .trailingBytes ∧ decode .h4t [] = .error .noBytes ∧ (Instr.slipLit 0xC0).wf = false := by
  decide

theorem witness_SlipRoundTrip :
    active.alive = true ∧ active.halted = false ∧ active.allocsSucceed ∧ ([0x00] : Bytes) ≠ [] :=
  ⟨rfl, rfl, active_allocs, by decide⟩

/-- For the statements whose only premises are a live block: SLIP.ENCODE, and CRC.UPDATE and CRC16. -/
theorem witness_LiveBlock : active.alive = true ∧ active.halted = false := by decide

theorem witness_SlipDecode : active.alive = true ∧ active.halted = false ∧
    ((0xC0 : Byte) ∉ ([] : Bytes) ∧ SlipReads [] []) ∧ ((0xC0 : Byte) ∉ ([0xDB] : Bytes) ∧ SlipReads [0xDB] [0xDB]) ∧
    ((0xC0 : Byte) ∉ ([0xDB, 0xDB, 0xDC, 0x41] : Bytes) ∧ SlipReads [0xDB, 0xDB, 0xDC, 0x41] [0xDB, 0xC0, 0x41]) :=
  ⟨rfl, rfl, ⟨by decide, .done⟩, ⟨by decide, .cutOff⟩, by decide,
    .unrecognised _ _ _ (by decide) (.escaped _ _ _ _ (by decide) (.plain _ _ _ (by decide) .done))⟩

theorem witness_SlipCollect : active.alive = true ∧ active.halted = false ∧ active.allocsSucceed ∧
    (0xC0 : Byte) ∉ ([] : Bytes) ∧ (0xC0 : Byte) ∉ ([0x05] : Bytes) ∧ ([0x05] : Bytes) ≠ [] :=
  ⟨rfl, rfl, active_allocs, by decide⟩

theorem witness_SlipResync : active.alive = true ∧ active.halted = false ∧ 0 ≤ ([0x01] : Bytes).length ∧ 1 ≤ ([0x01] : Bytes).length ∧
    (0xC0 : Byte) ∉ ([] : Bytes) ∧ (0x01 : Byte) ≠ 0xC0 ∧
    ({ active with allocDraws := [false] } : State).allocDraws =
      List.replicate ([] : Bytes).length true ++ false :: [] := by decide

theorem witness_SlipSymbols :
    active.inService ∧ active.allocsSucceed ∧ (0xDB : Byte) ∉ ([0xC0, 0xDC, 0xDD, 0xDE, 0xDF] : Bytes) ∧
    (0xDA : Byte) ∉ ([0xC0, 0xDB] : Bytes) ∧ active.collector = none ∧
    ({ active with collector := some [0xC0] } : State).collector = some ([0xC0] ++ []) ∧
    ({ active with collector := some [0xC0, 0x01] } : State).collector = some ([0xC0] ++ [0x01]) ∧
    ([0x01] : Bytes) ≠ [] ∧ SlipReads [0x01] [0x01] ∧ SlipReads ([] ++ [0xDB]) [0xDB] :=
  ⟨active_inService, active_allocs, by decide, by decide, rfl, rfl, rfl, by decide, .plain _ _ _ (by decide) .done,
    .cutOff⟩

theorem witness_HeaderChecksum : active.alive = true ∧ active.halted = false ∧ NodeKind.bcsp ∈ active.params.chain ∧
    (0 : Byte) ≠ 0xFF ∧ hdrChecksum 0 0 0 = 0xFF := by decide

theorem witness_PackBuildsTheFrame : active.inService ∧ (List.replicate 4095 (0 : Byte)).length ≤ 4095 ∧
    4095 < (List.replicate 4096 (0 : Byte)).length :=
  ⟨active_inService, by rw [List.length_replicate], by rw [List.length_replicate]; decide⟩

theorem witness_UnpackChecks : active.alive = true ∧ active.halted = false ∧ ([0, 0, 0] : Bytes).length < 4 ∧ 4 ≤ ([0, 0, 0, 0] : Bytes).length ∧
    headerWord 0xFF 0 0 false false 0 0 = 0xFF000000 := by decide

theorem witness_UnpackOfPack : active.inService ∧ (List.replicate 4095 (0 : Byte)).length ≤ 4095 ∧
    active.alive = true ∧ active.halted = false :=
  ⟨active_inService, by rw [List.length_replicate], rfl, rfl⟩

theorem witness_OneCorruptedByte : active.inService ∧ active.alive = true ∧ active.halted = false ∧ ([] : Bytes).length ≤ 4095 ∧
    3 < ([0x40, 0x01, 0x00, 0xBE, 0x00, 0x00] : Bytes).length ∧
    ([0x40, 0x01, 0x00, 0xBE, 0x00, 0x00] : Bytes)[3]? ≠ some 0xBF ∧
    5 < ([0x40, 0x01, 0x00, 0xBE, 0x00, 0x00] : Bytes).length ∧
    ([0x40, 0x01, 0x00, 0xBE, 0x00, 0x00] : Bytes)[5]? ≠ some 0x01 := ⟨active_inService, by decide⟩

theorem witness_Classify : active.inService := active_inService

theorem witness_UpSend :
    active.inService ∧ 4095 < (List.replicate 4096 (0 : Byte)).length ∧ Tag.vnd ≠ .ack ∧ Tag.vnd ≠ .link ∧
    (List.replicate 4095 (0 : Byte)).length ≤ 4095 ∧
    ({ active with allocDraws := [false] } : State).allocDraws = [false] ∧ active.allocDraws.head? ≠ some false ∧
    active.params.vendorReliable = true ∧
    (fresh { Config.params with vendorReliable := false }).inService ∧
    (fresh { Config.params with vendorReliable := false }).params.vendorReliable = false :=
  ⟨active_inService, by rw [List.length_replicate]; decide, by decide, by decide, by rw [List.length_replicate], rfl,
    by decide, rfl, ⟨rfl, rfl, by decide⟩, rfl⟩

theorem witness_TxFrame : active.inService ∧ active.allocsSucceed ∧ active.perfectSink ∧
    sendsToSink active.params.chain .bcsp = true ∧ cmd.payload.length ≤ 4095 :=
  ⟨active_inService, active_allocs, active_sink, active_chain, by decide⟩

/-- An established link with a unit in each queue, the worker scheduled. -/
def busy : State := { active with relQ := [cmd], unrelQ := [⟨.evt, []⟩], workerScheduled := true, ackRequired := true }

theorem witness_TxStep :
    ({ active with workerScheduled := true } : State).txStepEnabled = true ∧
    ({ active with workerScheduled := true } : State).work = false ∧
    busy.txStepEnabled = true ∧ busy.work = true ∧ busy.allocsSucceed ∧ busy.perfectSink ∧
    sendsToSink busy.params.chain .bcsp = true :=
  ⟨by decide, by decide, by decide, by decide, active_allocs, active_sink, active_chain⟩

/-- The gate is closed and an event unit waits. -/
def shut : State :=
  { active with peerState := .lowPower, workerScheduled := true, unrelQ := [⟨.evt, [0x0E]⟩] }

theorem witness_TxStepNotEnabled :
    active.inService ∧ active.workerScheduled = false ∧ active.txStepEnabled = false ∧
    shut.inService ∧ shut.hasWork ∧ ¬ shut.gateIsOpen ∧ ∀ u q, shut.unrelQ = u :: q → ¬ u.power := by
  refine ⟨active_inService, rfl, by decide, ⟨rfl, rfl, by decide⟩, .inl (by simp [shut]), ?_, ?_⟩
  · rintro (h | h)
    · exact h rfl
    · exact absurd h.1 (by decide)
  · rintro u q h
    injection h with h _
    subst h
    exact fun h => absurd h.1 (by decide)

theorem witness_FailedSends :
    ({ busy with allocDraws := [false] } : State).inService ∧
    ({ busy with allocDraws := [false] } : State).allocDraws = false :: [] ∧ cmd.payload.length ≤ 4095 ∧
    (({ busy with relQ := [], ackRequired := false } : State).unrelSendable = true ∧
      ({ busy with relQ := [], ackRequired := false } : State).relReady = false) ∧
    (({ busy with unrelQ := [], ackRequired := false } : State).relReady = true ∧
      ({ busy with unrelQ := [], ackRequired := false } : State).gateOpen = true) ∧
    (({ busy with unrelQ := [], relQ := [] } : State).relReady = false ∧
      ({ busy with unrelQ := [], relQ := [] } : State).ackRequired = true) ∧
    ({ busy with sinkDraws := [.hardError, .hardError] } : State).txStepEnabled = true ∧
    ({ busy with sinkDraws := [.hardError, .hardError] } : State).allocsSucceed ∧
    ({ busy with sinkDraws := [.hardError, .hardError] } : State).sinkDraws =
      List.replicate (busy.params.writeRetryLimit + 1) .hardError ++ [] ∧
    busy.unrelSendable = true :=
  ⟨⟨rfl, rfl, by decide⟩, rfl, by decide, by decide, by decide, by decide, by decide, active_allocs, by decide, by decide⟩

/-- The gate is closed and only a WOKEN waits. -/
def woken : State := { active with peerState := .lowPower, workerScheduled := true, unrelQ := [⟨.link, [0x06, 0xF9]⟩] }

theorem witness_Run :
    active.inService ∧ active.txStepEnabled = false ∧
    ({ busy with peerState := .lowPower } : State).txWakeEnabled = true ∧
    (woken.inService ∧ woken.txStepEnabled = true ∧ ¬ woken.gateIsOpen) ∧
    busy.txStepEnabled = true ∧ busy.gateIsOpen ∧ busy.txWakeEnabled = false ∧
    (after .txStep busy).map (·.halted) = some false ∧
    (after .txStep { busy with sinkDraws := [.hardError, .hardError] }).map (·.halted) = some true ∧
    .stalled ∉ busy.sinkDraws :=
  ⟨active_inService, by decide, by decide, ⟨⟨rfl, rfl, by decide⟩, by decide, by unfold State.gateIsOpen; decide⟩,
    by decide, .inl (by decide), by decide, by decide, by decide, by decide⟩

-- R147: a closed gate stops RUN before the power message TX.STEP would send, and before the worker's last iteration
theorem test_run_gate : seen (fun t => (t.phyTx, t.unrelQ.length)) .run woken = some (.done, [], 1) := by decide
theorem test_run_gate_idle : seen (·.workerScheduled) .run { woken with unrelQ := [] } = some (.done, true) := by
  decide

theorem witness_RxFrame :
    active.inService ∧ State.reset.inService ∧ active.established ∧ ¬ State.reset.established ∧
    bcspUnpack [0x01, 0x02, 0x03] = .truncated ∧ bcspUnpack [0x00, 0x00, 0x00, 0x00] = .checksumError ∧
    bcspUnpack [0x00, 0x10, 0x00, 0xEF] = .lengthShort ∧ bcspUnpack [0x08, 0x00, 0x00, 0xF7, 0x01] = .lengthOverrun ∧
    bcspUnpack [0x40, 0x01, 0x00, 0xBE, 0x00, 0x00] = .crcError ∧
    bcspUnpack [0x80, 0x04, 0x00, 0x7B] = .ok ⟨0, 0, false, true, 4, 0⟩ [] ∧ (0 : Count3) = active.ack ∧
    bcspUnpack [0x81, 0x04, 0x00, 0x7A] = .ok ⟨1, 0, false, true, 4, 0⟩ [] ∧ (1 : Count3) ≠ active.ack ∧
    bcspUnpack [0x00, 0x04, 0x00, 0xFB] = .ok ⟨0, 0, false, false, 4, 0⟩ [] :=
  ⟨active_inService, reset_inService, active_established, reset_not_established, by decide +kernel⟩

theorem witness_RxSeq : active.inService ∧ (0 : Count3) = active.ack ∧ (7 : Count3) ≠ active.ack :=
  ⟨active_inService, by decide⟩

/-- Three units outstanding: sequence numbers 2, 3, 4. -/
def outstanding : State := { active with seq := 5, rack := 2, credit := 1, sentQ := [unit 2, unit 3, unit 4] }

theorem witness_RxAck :
    outstanding.inService ∧ 3 = ((5 : Count3).toNat + 8 - outstanding.rack.toNat) % 8 ∧ (5 : Count3) = outstanding.seq ∧
    outstanding.sentQ ≠ [] ∧ active.inService ∧ (0 : Count3) = active.seq ∧ active.sentQ = [] ∧
    (2 = ((4 : Count3).toNat + 8 - outstanding.rack.toNat) % 8 ∧ (4 : Count3) ≠ outstanding.seq ∧
      2 ≤ outstanding.sentQ.length) ∧
    (0 = ((2 : Count3).toNat + 8 - outstanding.rack.toNat) % 8 ∧ (2 : Count3) ≠ outstanding.seq) ∧
    (4 = ((6 : Count3).toNat + 8 - outstanding.rack.toNat) % 8 ∧ (6 : Count3) ≠ outstanding.seq ∧
      outstanding.sentQ.length < 4) :=
  ⟨⟨rfl, rfl, by decide⟩, by decide, by decide, by decide, active_inService, by decide⟩

theorem witness_AcknowledgementIsIdempotent : outstanding.inService := ⟨rfl, rfl, by decide⟩

theorem witness_Deliver :
    active.inService ∧ (⟨0, 0, false, false, 15, 2⟩ : Header).type = 15 ∧
    (⟨0, 0, false, false, 13, 0⟩ : Header).type ∈ ([0, 3, 6, 7, 8, 9, 10, 11, 12, 13] : List (BitVec 4)) ∧
    (⟨0, 0, false, true, 14, 0⟩ : Header).type = 14 ∧ deliversToConsumer active.params.chain .bcsp = true :=
  ⟨active_inService, by decide⟩

theorem outstanding_window : WindowInv outstanding :=
  ⟨fun _ _ => by decide, fun _ _ => by decide, fun _ _ _ => by decide, fun _ _ h => absurd h (by decide)⟩

theorem witness_TimeoutGoesBackN :
    outstanding.inService ∧ WindowInv outstanding ∧ outstanding.sentQ ≠ [] ∧
    outstanding.retryCount < outstanding.params.retryLimit ∧
    ({ outstanding with retryCount := 1 } : State).inService ∧
    outstanding.params.retryLimit ≤ ({ outstanding with retryCount := 1 } : State).retryCount ∧ active.sentQ = [] :=
  ⟨⟨rfl, rfl, by decide⟩, outstanding_window, by decide, by decide, ⟨rfl, rfl, by decide⟩, by decide, rfl⟩

theorem witness_Timers :
    active.inService ∧ State.reset.rtxTimer = .armed ∧ ({ active with wakeTimer := .armed } : State).wakeTimer = .armed ∧
    ({ active with guardWait := true } : State).guardWait = true ∧ active.rtxTimer = .idle ∧ active.wakeTimer = .idle ∧
    active.guardWait = false ∧ ({ active with rtxWork := true } : State).rtxWork = true ∧
    State.reset.localState = .uninitialized ∧
    ({ State.reset with localState := .initialized } : State).localState = .initialized ∧
    ({ State.reset with localState := .waitPeerActive } : State).localState = .waitPeerActive ∧ active.established ∧
    active.rtxWork = false :=
  ⟨active_inService, rfl, rfl, rfl, rfl, rfl, rfl, rfl, rfl, rfl, rfl, active_established, rfl⟩

theorem witness_Handshake :
    State.reset.inService ∧ State.reset.localState = .uninitialized ∧
    (({ State.reset with localState := .initialized } : State).inService ∧
      ({ State.reset with localState := .initialized } : State).localState = .initialized) ∧
    (({ State.reset with localState := .waitPeerActive } : State).inService ∧
      ({ State.reset with localState := .waitPeerActive } : State).localState = .waitPeerActive) ∧
    active.inService ∧ active.established :=
  ⟨reset_inService, rfl, ⟨⟨rfl, rfl, by decide⟩, rfl⟩, ⟨⟨rfl, rfl, by decide⟩, rfl⟩, active_inService, active_established⟩

theorem witness_ConfIsAnswered :
    State.reset.inService ∧ (⟨.link, [0x04, 0x7B, 0x14]⟩ : QUnit) =
      ⟨.link, [0x04, 0x7B] ++ ((some (0x94 : Byte)).map (· &&& 0x7F)).toList⟩ ∧
    (0x04 : Byte) = 0#1 ++ (0 : BitVec 2) ++ BitVec.ofBool false ++ BitVec.ofBool false ++ BitVec.ofNat 3 4 ∧
    (∀ a, (some 0x94, 0x04, a) ∉ State.reset.params.negotiation) ∧
    ([(some 0x14, 0x04, some 0x94)] : List (Option Byte × Byte × Option Byte)) =
      [] ++ (some 0x14, 0x04, some 0x94) :: [] ∧
    State.reset.localState = .uninitialized ∧
    ({ State.reset with localState := .initialized } : State).localState = .initialized ∧
    ({ State.reset with localState := .waitPeerActive } : State).localState = .waitPeerActive ∧ active.established :=
  ⟨reset_inService, by decide, by decide, fun _ => List.not_mem_nil, rfl, rfl, rfl, rfl, active_established⟩

theorem witness_ConfResp :
    ({ State.reset with localState := .initialized } : State).inService ∧
    ({ State.reset with localState := .initialized } : State).localState = .initialized ∧
    ({ State.reset with localState := .initialized } : State).peerState ≠ .active ∧
    ({ State.reset with localState := .initialized, peerState := .active } : State).inService ∧
    ({ State.reset with localState := .initialized, peerState := .active } : State).peerState = .active ∧
    State.reset.localState ≠ .initialized :=
  ⟨⟨rfl, rfl, by decide⟩, rfl, by decide, ⟨rfl, rfl, by decide⟩, rfl, by decide⟩

theorem witness_EnterActive :
    State.reset.inService ∧ (State.reset.cfgPeer = none ∧ 4 = State.reset.params.w0 ∧ false = State.reset.params.f0 ∧
      false = State.reset.params.c0) ∧
    (({ State.reset with cfgPeer := some 0x18 } : State).inService ∧ (0x18 : Byte).extractLsb' 0 3 = 0 ∧
      true = (0x18 : Byte).getLsbD 3 ∧ true = (0x18 : Byte).getLsbD 4) ∧
    (7 = ((0x07 : Byte).extractLsb' 0 3).toNat ∧ (0x07 : Byte).extractLsb' 0 3 ≠ 0 ∧ false = (0x07 : Byte).getLsbD 3 ∧
      false = (0x07 : Byte).getLsbD 4) :=
  ⟨reset_inService, by decide, ⟨⟨rfl, rfl, by decide⟩, by decide⟩, by decide⟩

theorem witness_LinkMessages : active.inService := active_inService

theorem witness_Sequencing :
    Instr.linkRxSyncResp.supervision = false ∧
    (after .linkRxSyncResp State.reset).map (·.localState) = some .initialized ∧
    Instr.linkEnterActive.supervision = false ∧ (after .linkEnterActive State.reset).map (·.window) = some 4 := by decide

theorem witness_PowerMessages :
    State.reset.inService ∧ ¬ State.reset.established ∧
    (({ active with localState := .lowPower } : State).inService ∧
      ({ active with localState := .lowPower } : State).localState = .lowPower) ∧
    active.inService ∧ active.localState = .active ∧ active.established ∧ active.seq = active.rack ∧
    active.sentQ = [] ∧ active.relQ = [] ∧
    (outstanding.inService ∧ outstanding.established ∧ outstanding.seq ≠ outstanding.rack ∧ outstanding.sentQ ≠ []) ∧
    busy.relQ ≠ [] :=
  ⟨reset_inService, reset_not_established, ⟨⟨rfl, rfl, by decide⟩, rfl⟩, active_inService, rfl, active_established, rfl,
    rfl, rfl, ⟨⟨rfl, rfl, by decide⟩, .inl rfl, by decide, by decide⟩, by decide⟩

theorem witness_Wakeup :
    active.inService ∧ active.allocsSucceed ∧ active.perfectSink ∧ sendsToSink active.params.chain .bcsp = true ∧
    ({ busy with peerState := .lowPower } : State).txWakeEnabled = true ∧ active.txWakeEnabled = false ∧
    (({ active with wakeWork := true, peerState := .lowPower } : State).wakeWork = true ∧
      ({ active with wakeWork := true, peerState := .lowPower } : State).established ∧
      ({ active with wakeWork := true, peerState := .lowPower } : State).peerState = .lowPower) ∧
    (({ active with wakeWork := true } : State).wakeWork = true ∧
      ¬ (({ active with wakeWork := true } : State).established ∧
        ({ active with wakeWork := true } : State).peerState = .lowPower)) ∧
    active.wakeWork = false ∧ ({ active with wakeTimer := .armed } : State).wakeTimer = .armed :=
  ⟨active_inService, active_allocs, active_sink, active_chain, by decide, by decide, ⟨rfl, .inl rfl, rfl⟩,
    ⟨rfl, fun h => absurd h.2 (by decide)⟩, rfl, rfl⟩

/-- The gate is closed and a WOKEN and a command wait. -/
def gated : State :=
  { active with peerState := .lowPower, unrelQ := [⟨.link, [0x06, 0xF9]⟩], relQ := [cmd], workerScheduled := true }

theorem witness_ClosedGate : ¬ gated.gateIsOpen ∧
    (after .txStep gated).map (·.phyTx) = some [0xC0, 0x00, 0x2F, 0x00, 0xD0, 0x06, 0xF9, 0xC0] :=
  ⟨by unfold State.gateIsOpen; decide, by decide⟩

theorem witness_CrossScenario :
    outstanding.inService ∧ WindowInv outstanding ∧ outstanding.established ∧ outstanding.seq ≠ outstanding.rack ∧
    outstanding.allocsSucceed ∧ outstanding.perfectSink ∧ sendsToSink outstanding.params.chain .bcsp = true :=
  ⟨⟨rfl, rfl, by decide⟩, outstanding_window, .inl rfl, by decide, active_allocs, rfl, by decide⟩

theorem witness_ChainNeighbours : active.alive = true ∧ active.halted = false ∧
    0 + 1 < active.params.chain.length ∧ 1 + 1 < active.params.chain.length ∧ active.params.chain.length ≤ 2 + 1 := by
  decide

theorem witness_ChainNodes :
    NodeKind.bcsp ∉ [NodeKind.consumer] ∧ NodeKind.bcsp ∉ ([] : List NodeKind) ∧ NodeKind.bcsp ≠ .consumer ∧
    NodeKind.h4Adapter ∉ Config.bcspChain ∧ NodeKind.bcsp ∉ [NodeKind.physicalSink] ∧
    NodeKind.h4Adapter ∉ [NodeKind.physicalSink] ∧ NodeKind.h4Adapter ≠ .consumer ∧ NodeKind.h4Adapter ≠ .physicalSink := by
  decide

theorem witness_ChainWalks :
    active.inService ∧ 1 + 1 < active.params.chain.length ∧ active.params.chain.length ≤ 2 + 1 ∧
    kindAfter active.params.chain .bcsp = some .physicalSink ∧ active.perfectSink ∧
    kindBefore active.params.chain .bcsp = some .consumer ∧ Tag.vnd ≠ .ack ∧ Tag.vnd ≠ .link ∧
    (fresh { Config.params with chain := [.consumer, .h4Adapter, .bcsp, .h4Adapter, .physicalSink] }).inService ∧
    kindAfter [.consumer, .h4Adapter, .bcsp, .h4Adapter, .physicalSink] .bcsp ≠ some .physicalSink ∧
    kindBefore [.consumer, .h4Adapter, .bcsp, .h4Adapter, .physicalSink] .bcsp ≠ some .consumer :=
  ⟨active_inService, by decide, by decide, by decide, active_sink, by decide, by decide, by decide, ⟨rfl, rfl, by decide⟩,
    by decide, by decide⟩

theorem witness_RxBytes : active.inService ∧
    (slipCollect active.allocDraws active.collector [0xC0, 0x05]).completed = false ∧
    (slipCollect active.allocDraws active.collector [0xC0, 0x05, 0xC0, 0x06]).completed = true :=
  ⟨active_inService, by decide⟩

theorem witness_Fragmentation : active.inService := active_inService

theorem witness_Peer : active.inService ∧ (⟨2, true, 0, 0, true, [0xC0], true⟩ : PeerFrame).payload.length ≤ 4095 ∧
    active.collector = none ∧ active.allocsSucceed := ⟨active_inService, by decide, rfl, active_allocs⟩

theorem witness_PhyWrite :
    active.alive = true ∧ active.halted = false ∧ .stalled ∉ ([.accepted 2, .hardError] : List SinkAnswer) ∧
    ([.accepted 2, .hardError] : List SinkAnswer).count .hardError ≤ active.params.writeRetryLimit ∧
    ([0x01, 0x02] : Bytes).length ≤ (([.accepted 2, .hardError] : List SinkAnswer).map SinkAnswer.taken).sum ∧
    ([.accepted 2, .hardError] : List SinkAnswer).count .hardError = active.params.writeRetryLimit ∧
    (([.accepted 2, .hardError] : List SinkAnswer).map SinkAnswer.taken).sum < ([0x01, 0x02, 0x03] : Bytes).length ∧
    ({ active with sinkDraws := [.accepted 9] } : State).sinkDraws = [.accepted 9] ++ [] ∧
    .stalled ∉ ([.accepted 9] : List SinkAnswer) ∧
    ([.accepted 9] : List SinkAnswer).count .hardError ≤ active.params.writeRetryLimit ∧
    ({ active with sinkDraws := [.hardError, .stalled] } : State).sinkDraws = [.hardError] ++ .stalled :: [] ∧
    .stalled ∉ ([.hardError] : List SinkAnswer) ∧
    ([.hardError] : List SinkAnswer).count .hardError ≤ active.params.writeRetryLimit ∧
    (([.hardError] : List SinkAnswer).map SinkAnswer.taken).sum < ([0x01] : Bytes).length := by
  decide

theorem witness_Sizer : active.alive = true ∧ active.halted = false ∧ ([] : Bytes).length < 2 ∧ ([0, 0, 0] : Bytes).length < 4 ∧
    (0x00 : Byte) ∉ ([0x01, 0x02, 0x04, 0x05] : Bytes) ∧ (0x06 : Byte) ∉ ([0x01, 0x02, 0x04, 0x05] : Bytes) := by decide

theorem witness_H4Send :
    h4.inH4Service ∧ h4.params.h4VendorCode = none ∧ kindAfter h4.params.chain .h4Adapter = some .physicalSink ∧
    h4.perfectSink ∧
    (fresh { Config.params with chain := [.consumer, .h4Adapter, .bcsp, .physicalSink] }).inH4Service ∧
    kindAfter [.consumer, .h4Adapter, .bcsp, .physicalSink] .h4Adapter ≠ some .physicalSink :=
  ⟨h4_inH4Service, rfl, by decide, rfl, ⟨rfl, rfl, by decide⟩, by decide⟩

theorem witness_H4Delivers :
    h4.inH4Service ∧ h4.h4Collector ++ [0xFF] = 0xFF :: [] ∧ sizerLen h4.params 0xFF [] = .unknownType ∧
    sizerLen h4.params 0x04 [] = .insufficientHeader ∧ sizerLen h4.params 0x04 [0x0E, 0x01] = .len 3 ∧
    sizerLen h4.params 0x04 [0x0E, 0x00] = .len 2 ∧ h4Tag h4.params 0x04 = some .evt ∧
    deliversToConsumer h4.params.chain .h4Adapter = true := ⟨h4_inH4Service, by decide⟩

theorem witness_WireRows : active.inService ∧ h4.inH4Service ∧
    ([] : Bytes) ∉ ([[0x01, 0x7E], [0x02, 0x7D], [0x03, 0xFC], [0x04, 0x7B], [0x05, 0xFA], [0x06, 0xF9], [0x07, 0x78]] :
      List Bytes) ∧ ∀ d : Byte, ([] : Bytes) ≠ [0x03, 0xFC, d] ∧ ([] : Bytes) ≠ [0x04, 0x7B, d] :=
  ⟨active_inService, h4_inH4Service, by decide, fun _ => ⟨by simp, by simp⟩⟩

theorem witness_FatalReports : active.alive = true ∧ active.halted = false := by decide

theorem witness_Halted :
    ({ active with halted := true } : State).halted = true ∧ ({ active with alive := false } : State).alive = false ∧
    Instr.txStep.supervision = false ∧ (Instr.crc16 []).supervision = false := by decide

theorem witness_Init : ({ active with halted := true } : State).halted = true ∧
    ({ active with alive := false } : State).alive = false ∧ active.alive = true ∧ active.halted = false := by decide

theorem witness_Teardown : active.alive = true ∧ ({ active with alive := false } : State).alive = false := by decide

theorem outstanding_storage : StorageInv outstanding where
  params := by decide
  collector := trivial
  unrelQ := by unfold queueOk; decide
  relQ := by unfold queueOk; decide
  sentQ := by unfold queueOk; decide
  relTags := by unfold upperUnits; decide
  sentTags := by unfold upperUnits; decide
  upRx := by unfold upperUnits; decide
  window := fun _ => by decide
  peer := fun _ => by decide

/-- A step that moves the counters: one of three outstanding units is acknowledged. -/
def moving : State := { outstanding with events := [.op (.arqRxAck 3)] }

/-- The next state of a step, where there is one. -/
def stepped (s : State) : Option State :=
  match step s with
  | .next t => some t
  | .fault _ => none
  | .refused _ => none

theorem witness_EveryStepKeeps :
    StorageInv moving ∧ WindowInv moving ∧ (∀ i, fetch moving = .instr i → i.countersBelong moving) ∧
    (stepped moving).map (·.rack) = some 3 :=
  ⟨⟨outstanding_storage.params, outstanding_storage.collector, outstanding_storage.unrelQ, outstanding_storage.relQ,
      outstanding_storage.sentQ, outstanding_storage.relTags, outstanding_storage.sentTags, outstanding_storage.upRx,
      outstanding_storage.window, outstanding_storage.peer⟩,
    ⟨outstanding_window.distance, outstanding_window.bound, outstanding_window.credit, outstanding_window.quiet⟩,
    fun i h => by cases h; trivial, by decide⟩

/-- A frame shorter than a header is dropped silently (R234, R277, R445). -/
theorem test_short_frame : (stepped { active with events := [.wire .bcsp [0x00, 0x10, 0x00]] }).map
    (fun t => (t.answer, t.faults)) = some (.done, []) := by decide

/-- A run of several symbols reaches the collector (R396). -/
-- R393, R394: the unit is offered to the node before the adapter that received it, a Bcsp node, which refuses it
theorem test_two_adapters :
    (stepped { active with
      params := { Config.params with chain := [.consumer, .h4Adapter, .bcsp, .h4Adapter, .physicalSink] }
      events := [.phyRx [0x04, 0x0E, 0x00]] }).map (fun t => (t.answer, t.upRx, t.h4Collector)) =
      some (.count 3, [], []) := by decide
theorem test_symbols : (stepped { active with events := [.wire .slip [0xC0, 0x01, 0x02]] }).map (·.collector) =
    some (some [0xC0, 0x01, 0x02]) := by decide

theorem witness_TracesGrow : (stepped { active with events := [.op (.phyWrite [0x01])] }).map (·.phyTx) = some [0x01] := by
  decide

end Sys2Proof.Tests
end

section
/-! The header checksum of a BCSP frame (42_bcsp_crc.md R232, 30_encoding.md R135) and the discarding of a frame whose
checksum fails (42_bcsp_crc.md R234, 43_arq.md R277). -/

namespace Sys2Proof.Machine

/-! ### The operations that answer in place -/

theorem exec_hdrChecksum_of_live (b0 b1 b2 : Byte) {s : State} (ha : s.alive = true) (hh : s.halted = false) :
    exec (.hdrChecksum b0 b1 b2) s = .next (s.answering (.byte (hdrChecksum b0 b1 b2))) :=
  onLive_of_live ha hh

theorem exec_bcspUnpack_of_live (f : Bytes) {s : State} (ha : s.alive = true) (hh : s.halted = false) :
    exec (.bcspUnpack f) s = .next (s.answering (.unpacked (bcspUnpack f))) :=
  onLive_of_live ha hh

theorem onBcsp_of_inService {u s : State} {a : Answer} (h : s.inService) : onBcsp u a s = .next (u.answering a) :=
  if_pos (bcspLive_of_inService h)

theorem exec_rxFrame_of_inService (f : Bytes) {s : State} (h : s.inService) :
    exec (.rxFrame f) s = .next ((rxFrame f s).answering .done) :=
  onBcsp_of_inService h

/-! ### The checksum in numbers -/

theorem hdrChecksum_toNat (b0 b1 b2 : Byte) :
    (hdrChecksum b0 b1 b2).toNat = 255 - (b0.toNat + b1.toNat + b2.toNat) % 256 := by
  have hsum : (b0 + b1 + b2).toNat = (b0.toNat + b1.toNat + b2.toNat) % 256 := by
    simp only [BitVec.toNat_add, Nat.reducePow, Nat.mod_add_mod]
  rw [hdrChecksum, BitVec.toNat_not, hsum]

/-- R135: the stored checksum is right exactly when the four header bytes sum to 0xFF. -/
theorem eq_hdrChecksum_iff_sum (b0 b1 b2 b3 : Byte) :
    b3 = hdrChecksum b0 b1 b2 ↔ (b0.toNat + b1.toNat + b2.toNat + b3.toNat) % 256 = 0xFF := by
  have hb3 : b3.toNat < 256 := b3.isLt
  rw [← BitVec.toNat_inj, hdrChecksum_toNat]
  omega

/-! ### A frame that fails the check -/

/-- The checksum is the first check of a frame that has a whole header (R234). -/
theorem bcspUnpack_of_ne_hdrChecksum {b0 b1 b2 b3 : Byte} (h : b3 ≠ hdrChecksum b0 b1 b2) (rest : Bytes) :
    bcspUnpack ([b0, b1, b2, b3] ++ rest) = .checksumError :=
  if_pos h

theorem rxFrame_of_checksumError {f : Bytes} (h : bcspUnpack f = .checksumError) (s : State) :
    rxFrame f s = raiseFault (.checksum .header) s := by
  rw [rxFrame, h]

/-- A CHECKSUM report is not fatal: it goes out and changes nothing else (R444, R446). -/
theorem raiseFault_checksum (k : ChecksumCause) (s : State) :
    raiseFault (.checksum k) s = { s with faults := s.faults ++ [.checksum k] } := by
  have hfatal : fatal (.checksum k) = false := rfl
  rw [raiseFault, hfatal, Bool.or_false]

/-- Settles O13: the witness is HDR.CHECKSUM's own value; the discarding follows the checksum check that BCSP.UNPACK
makes first. -/
theorem headerChecksumComplementsTheSum : Obligations.HeaderChecksumComplementsTheSum := by
  intro b0 b1 b2 s ha hh
  refine ⟨hdrChecksum b0 b1 b2, exec_hdrChecksum_of_live b0 b1 b2 ha hh, hdrChecksum_toNat b0 b1 b2,
    eq_hdrChecksum_iff_sum b0 b1 b2, fun b3 rest hbad => ?_⟩
  have herr := bcspUnpack_of_ne_hdrChecksum hbad rest
  constructor
  case left =>
    rw [exec_bcspUnpack_of_live _ ha hh, herr]
    rfl
  case right =>
    intro hnode
    rw [exec_rxFrame_of_inService _ ⟨ha, hh, hnode⟩, rxFrame_of_checksumError herr, raiseFault_checksum]
    rfl

end Sys2Proof.Machine
end

section
/-! What the sequencer's operations leave running, and the two outcomes of a report (60_exceptions.md R444, R446):
shared by the reception and the retransmission of a frame. -/

namespace Sys2Proof.Machine

/-! ### The fault signal -/

/-- A fatal report halts the block (R444, R446). -/
theorem raiseFault_of_fatal {r : Report} (hr : fatal r = true) (s : State) :
    raiseFault r s = { s with faults := s.faults ++ [r], halted := true } := by
  rw [raiseFault, hr, Bool.or_true]

/-- Any other report only goes out (R444, R446). -/
theorem raiseFault_of_not_fatal {r : Report} (hr : fatal r = false) (s : State) :
    raiseFault r s = { s with faults := s.faults ++ [r] } := by
  rw [raiseFault, hr, Bool.or_false]

/-! ### The node stays in service -/

theorem inService_answering {s : State} (h : s.inService) (a : Answer) : (s.answering a).inService :=
  ⟨h.alive, h.running, h.node⟩

theorem inService_acceptSeq {s : State} (h : s.inService) : (acceptSeq s).inService :=
  ⟨h.alive, h.running, h.node⟩

theorem rxAck_halted (a : Count3) (s : State) : (rxAck a s).halted = s.halted := by
  unfold rxAck
  split
  case isTrue => rfl
  case isFalse => split <;> rfl

/-- An acknowledgement raises no fault (R279). -/
theorem inService_rxAck (a : Count3) {s : State} (h : s.inService) : (rxAck a s).inService where
  alive := (rxAck_received a s).alive.trans h.alive
  running := (rxAck_halted a s).trans h.running
  node := (rxAck_received a s).params ▸ h.node

end Sys2Proof.Machine
end

section
/-! Reception of a frame (43_arq.md R277, R278): the sequence check, and the order in which a good frame is checked,
acknowledges and is delivered. -/

namespace Sys2Proof.Machine

/-! ### The operations that answer in place -/

theorem exec_arqRxSeq_of_eq {n : Count3} {s : State} (h : s.inService) (hn : n = s.ack) :
    exec (.arqRxSeq n) s = .next ((acceptSeq s).answering (.sequence true)) :=
  (if_pos hn).trans (onBcsp_of_inService h)

theorem exec_arqRxSeq_of_ne {n : Count3} {s : State} (h : s.inService) (hn : n ≠ s.ack) :
    exec (.arqRxSeq n) s = .next ((raiseFault (.outOfSequence n s.ack) s).answering (.sequence false)) :=
  (if_neg hn).trans (onBcsp_of_inService h)

theorem exec_arqRxAck_of_inService (a : Count3) {s : State} (h : s.inService) :
    exec (.arqRxAck a) s = .next ((rxAck a s).answering .done) :=
  onBcsp_of_inService h

theorem exec_arqDeliver_of_inService (hd : Header) (p : Bytes) (arqOn : Bool) {s : State} (h : s.inService) :
    exec (.arqDeliver hd p arqOn) s = .next ((deliver hd p arqOn s).answering .done) :=
  onBcsp_of_inService h

/-- Settles O26: the two branches of the sequence check, the second being a fatal report. -/
theorem rxSeqAcceptsOnlyTheExpectedNumber : Obligations.RxSeqAcceptsOnlyTheExpectedNumber := by
  intro n s h
  constructor
  case left =>
    intro hn
    rw [exec_arqRxSeq_of_eq h hn]
    rfl
  case right =>
    intro hn
    rw [exec_arqRxSeq_of_ne h hn, raiseFault_of_fatal rfl]
    rfl

/-! ### A frame by the result of its unpacking -/

theorem rxFrame_of_truncated {f : Bytes} (hf : bcspUnpack f = .truncated) (s : State) : rxFrame f s = s := by
  rw [rxFrame, hf]

theorem rxFrame_of_lengthShort {f : Bytes} (hf : bcspUnpack f = .lengthShort) (s : State) :
    rxFrame f s = raiseFault (.checksum .lengthShort) s := by
  rw [rxFrame, hf]

theorem rxFrame_of_lengthOverrun {f : Bytes} (hf : bcspUnpack f = .lengthOverrun) (s : State) :
    rxFrame f s = raiseFault (.checksum .lengthOverrun) s := by
  rw [rxFrame, hf]

theorem rxFrame_of_crcError {f : Bytes} (hf : bcspUnpack f = .crcError) (s : State) :
    rxFrame f s = raiseFault .crc s := by
  rw [rxFrame, hf]

theorem rxFrame_of_ok {f p : Bytes} {h : Header} (hf : bcspUnpack f = .ok h p) (s : State) :
    rxFrame f s = rxGood h p s := by
  rw [rxFrame, hf]

/-- A frame dropped with a report that is not fatal leaves nothing but the report (R277, R442). -/
theorem exec_rxFrame_of_report {f : Bytes} {s : State} {r : Report} (h : s.inService)
    (hf : rxFrame f s = raiseFault r s) (hr : fatal r = false) :
    exec (.rxFrame f) s = .next { s with faults := s.faults ++ [r], answer := .done } := by
  rw [exec_rxFrame_of_inService f h, hf, raiseFault_of_not_fatal hr]
  rfl

/-! ### A good frame by the state of the link -/

theorem rxGood_of_not_established {s : State} (he : ¬ s.established) (h : Header) (p : Bytes) :
    rxGood h p s = deliver h p false s :=
  if_neg (mt (linkActive_iff_established s).mp he)

theorem rxGood_of_established {s : State} (he : s.established) (h : Header) (p : Bytes) :
    rxGood h p s =
      if h.reliable then
        if h.seq = s.ack then deliver h p true (rxAck h.ack (acceptSeq s))
        else raiseFault (.outOfSequence h.seq s.ack) s
      else deliver h p true (rxAck h.ack s) :=
  if_pos ((linkActive_iff_established s).mpr he)

theorem rxGood_of_unreliable {s : State} {h : Header} (he : s.established) (hr : h.reliable = false) (p : Bytes) :
    rxGood h p s = deliver h p true (rxAck h.ack s) := by
  rw [rxGood_of_established he, if_neg (by simp [hr])]

theorem rxGood_of_expected {s : State} {h : Header} (he : s.established) (hr : h.reliable = true)
    (hs : h.seq = s.ack) (p : Bytes) : rxGood h p s = deliver h p true (rxAck h.ack (acceptSeq s)) := by
  rw [rxGood_of_established he, if_pos hr, if_pos hs]

theorem rxGood_of_unexpected {s : State} {h : Header} (he : s.established) (hr : h.reliable = true)
    (hs : h.seq ≠ s.ack) (p : Bytes) : rxGood h p s = raiseFault (.outOfSequence h.seq s.ack) s := by
  rw [rxGood_of_established he, if_pos hr, if_neg hs]

theorem exec_rxFrame_of_ok {f p : Bytes} {h : Header} {s : State} (hs : s.inService) (hf : bcspUnpack f = .ok h p) :
    exec (.rxFrame f) s = .next ((rxGood h p s).answering .done) := by
  rw [exec_rxFrame_of_inService f hs, rxFrame_of_ok hf]

/-! ### Acknowledgement, then delivery -/

/-- ARQ.RX_ACK and ARQ.DELIVER asked for one after the other do what they do inside RX.FRAME: neither reads the answer
of the operation before it. -/
theorem exec_arqRxAck_arqDeliver (h : Header) (p : Bytes) (a : Answer) {s : State} (hs : s.inService) :
    exec (.arqRxAck h.ack) (s.answering a) = .next ((rxAck h.ack s).answering .done) ∧
    exec (.arqDeliver h p true) ((rxAck h.ack s).answering .done) =
      .next ((deliver h p true (rxAck h.ack s)).answering .done) := by
  constructor
  case left =>
    rw [exec_arqRxAck_of_inService _ (inService_answering hs a), rxAck_answering, answering_answering]
  case right =>
    rw [exec_arqDeliver_of_inService _ _ _ (inService_answering (inService_rxAck h.ack hs) .done), deliver_answering,
      answering_answering]

/-- Settles O25: one equation per result of the unpacking and per branch of a good frame; the operations RX.FRAME is
made of are asked for in states that are still in service. -/
theorem rxFrameChecksAcknowledgesDelivers : Obligations.RxFrameChecksAcknowledgesDelivers := by
  intro f s hs
  refine ⟨fun hf => ?truncated,
    fun hf => exec_rxFrame_of_report hs (rxFrame_of_checksumError hf s) rfl,
    fun hf => exec_rxFrame_of_report hs (rxFrame_of_lengthShort hf s) rfl,
    fun hf => exec_rxFrame_of_report hs (rxFrame_of_lengthOverrun hf s) rfl,
    fun hf => exec_rxFrame_of_report hs (rxFrame_of_crcError hf s) rfl,
    fun h p hf => ⟨fun he hr hne => ?unexpected, fun he hr heq => ?expected, fun he hr => ?unreliable,
      fun he => ?notEstablished⟩⟩
  case truncated =>
    rw [exec_rxFrame_of_inService f hs, rxFrame_of_truncated hf]
    rfl
  case unexpected =>
    rw [exec_rxFrame_of_ok hs hf, rxGood_of_unexpected he hr hne, raiseFault_of_fatal rfl]
    rfl
  case expected =>
    obtain ⟨hack, hdeliver⟩ := exec_arqRxAck_arqDeliver h p (.sequence true) (inService_acceptSeq hs)
    refine ⟨_, _, _, exec_arqRxSeq_of_eq hs heq, hack, hdeliver, ?_⟩
    rw [exec_rxFrame_of_ok hs hf, rxGood_of_expected he hr heq]
  case unreliable =>
    obtain ⟨hack, hdeliver⟩ := exec_arqRxAck_arqDeliver h p s.answer hs
    refine ⟨_, _, hack, hdeliver, ?_⟩
    rw [exec_rxFrame_of_ok hs hf, rxGood_of_unreliable he hr]
  case notEstablished =>
    refine ⟨_, exec_arqDeliver_of_inService h p false hs, ?_⟩
    rw [exec_rxFrame_of_ok hs hf, rxGood_of_not_established he]

end Sys2Proof.Machine
end

section
/-! The retransmission timeout and go-back-N (43_arq.md R283, R284). -/

namespace Sys2Proof.Machine

/-! ### The operations that answer in place -/

theorem exec_arqReload_of_inService {s : State} (h : s.inService) :
    exec .arqReload s = .next ((arqReload s).answering .done) :=
  onBcsp_of_inService h

theorem exec_arqTimeout_of_inService {s : State} (h : s.inService) :
    exec .arqTimeout s = .next ((arqTimeout s).answering .done) :=
  onBcsp_of_inService h

/-! ### The three cases of a timeout -/

/-- A stale expiry: nothing is outstanding (R283). -/
theorem arqTimeout_of_nil {s : State} (hq : s.sentQ = []) : arqTimeout s = s :=
  if_pos (List.isEmpty_iff.mpr hq)

theorem arqTimeout_of_limit_le {s : State} (hq : s.sentQ ≠ []) (hlim : s.params.retryLimit ≤ s.retryCount) :
    arqTimeout s = raiseFault (.retryLimit s.retryCount) s := by
  rw [arqTimeout, if_neg (mt List.isEmpty_iff.mp hq), if_pos hlim]

theorem arqTimeout_of_lt_limit {s : State} (hq : s.sentQ ≠ []) (hlim : s.retryCount < s.params.retryLimit) :
    arqTimeout s = arqReload { s with retryCount := s.retryCount + 1 } := by
  rw [arqTimeout, if_neg (mt List.isEmpty_iff.mp hq), if_neg (Nat.not_le.mpr hlim)]

/-! ### The counter after a reload -/

/-- Under the sliding window invariant the reload rolls `seq` back to `rack` (R36, R284). -/
theorem seq_sub_sentQ_length_eq_rack {s : State} (h : s.inService) (w : WindowInv s) :
    s.seq - BitVec.ofNat 3 s.sentQ.length = s.rack := by
  rw [← w.distance h.alive h.running, BitVec.ofNat_toNat, BitVec.setWidth_eq, sub_sub_cancel]

/-- Settles O30: the reload's equation, the window invariant's distance, and the three cases of the timeout. -/
theorem timeoutGoesBackN : Obligations.TimeoutGoesBackN := by
  intro s h
  refine ⟨exec_arqReload_of_inService h, seq_sub_sentQ_length_eq_rack h, fun hq => ?stale,
    fun hq hlim => ?atLimit, fun hq hlim => ?belowLimit⟩
  case stale =>
    rw [exec_arqTimeout_of_inService h, arqTimeout_of_nil hq]
    rfl
  case atLimit =>
    rw [exec_arqTimeout_of_inService h, arqTimeout_of_limit_le hq hlim, raiseFault_of_fatal rfl]
    rfl
  case belowLimit =>
    rw [exec_arqTimeout_of_inService h, arqTimeout_of_lt_limit hq hlim]
    rfl

end Sys2Proof.Machine
end

section
/-! The configuration response of the link establishment handshake (44_link_fsm.md R325). -/

namespace Sys2Proof.Machine

/-! ### The operations that answer in place -/

theorem exec_linkRxConfResp_of_inService (cfg : Option Byte) {s : State} (h : s.inService) :
    exec (.linkRxConfResp cfg) s = .next ((rxConfResp cfg s).answering .done) :=
  onBcsp_of_inService h

theorem exec_linkEnterActive_of_inService {s : State} (h : s.inService) :
    exec .linkEnterActive s = .next ((enterActive s).answering .done) :=
  onBcsp_of_inService h

/-! ### The three cases of a CONF_RESP -/

theorem rxConfResp_of_peer_active {s : State} (cfg : Option Byte) (hs : s.localState = .initialized)
    (hp : s.peerState = .active) : rxConfResp cfg s = enterActive { s with rtxTimer := .idle, cfgPeer := cfg } := by
  simp only [rxConfResp, hs, if_pos hp]

theorem rxConfResp_of_peer_not_active {s : State} (cfg : Option Byte) (hs : s.localState = .initialized)
    (hp : s.peerState ≠ .active) :
    rxConfResp cfg s = { s with rtxTimer := .idle, cfgPeer := cfg, localState := .waitPeerActive } := by
  simp only [rxConfResp, hs, if_neg hp]

theorem rxConfResp_of_not_initialized {s : State} (cfg : Option Byte) (hs : s.localState ≠ .initialized) :
    rxConfResp cfg s = s := by
  unfold rxConfResp
  split
  case h_1 hi => exact absurd hi hs
  all_goals rfl

/-- Settles O34: outside Initialized nothing changes; within it, what LINK.ENTER_ACTIVE does to the state that holds the
captured byte, or the wait for the peer. -/
theorem confRespCapturesTheConfiguration : Obligations.ConfRespCapturesTheConfiguration := by
  intro cfg s h
  rw [exec_linkRxConfResp_of_inService cfg h]
  refine ⟨fun hs hp => ?waits, fun hs hp => ?entersActive, fun hs => ?ignored⟩
  case waits =>
    rw [rxConfResp_of_peer_not_active cfg hs hp]
    rfl
  case entersActive =>
    have captured : ({ s with rtxTimer := .idle, cfgPeer := cfg } : State).inService :=
      ⟨h.alive, h.running, h.node⟩
    rw [rxConfResp_of_peer_active cfg hs hp]
    exact ⟨_, exec_linkEnterActive_of_inService captured, rfl⟩
  case ignored =>
    rw [rxConfResp_of_not_initialized cfg hs]
    rfl

end Sys2Proof.Machine
end


section
/-! The neighbours of a node in the chain (46_chain.md R391). -/

namespace Sys2Proof.Machine

/-! ### The neighbours at both ends of the list and between them -/

theorem chainNext_of_lt {n i : Nat} (h : i + 1 < n) : chainNext n i = some (i + 1) :=
  if_pos h

theorem chainNext_of_le {n i : Nat} (h : n ≤ i + 1) : chainNext n i = none :=
  if_neg (Nat.not_lt.mpr h)

theorem chainPrev_succ (i : Nat) : chainPrev (i + 1) = some i :=
  if_pos i.succ_pos

theorem chainPrev_zero : chainPrev 0 = none :=
  if_neg (Nat.lt_irrefl 0)

/-! ### The operations that answer in place -/

theorem exec_chainNext_of_live (i : Nat) {s : State} (ha : s.alive = true) (hh : s.halted = false) :
    exec (.chainNext i) s = .next (s.answering (.index (chainNext s.params.chain.length i))) :=
  onLive_of_live ha hh

theorem exec_chainPrev_of_live (i : Nat) {s : State} (ha : s.alive = true) (hh : s.halted = false) :
    exec (.chainPrev i) s = .next (s.answering (.index (chainPrev i))) :=
  onLive_of_live ha hh

/-- Settles O42: each call answers its neighbour in the list, by the place of the node against the end it looks towards. -/
theorem chainNeighboursAreTheListNeighbours : Obligations.ChainNeighboursAreTheListNeighbours := by
  intro i s ha hh
  refine ⟨fun hlt => ?nextInside, fun hle => ?nextPastTheEnd, ?prevInside, ?prevPastTheEnd⟩
  case nextInside =>
    rw [exec_chainNext_of_live i ha hh, chainNext_of_lt hlt]
    rfl
  case nextPastTheEnd =>
    rw [exec_chainNext_of_live i ha hh, chainNext_of_le hle]
    rfl
  case prevInside =>
    rw [exec_chainPrev_of_live (i + 1) ha hh, chainPrev_succ]
    rfl
  case prevPastTheEnd =>
    rw [exec_chainPrev_of_live 0 ha hh, chainPrev_zero]
    rfl

end Sys2Proof.Machine
end

section
/-! The encodings read back (30_encoding.md R131, R134, R137, R139 to R142): the decoder of each layer against the
encoder, row by row. -/

namespace Sys2Proof

/-! ### BCSP frames by their header word -/

/-- The decoder takes the fields of a header word apart as they were put together (R134, R136). -/
theorem decodeBcsp_hdrWordBytes (type : BitVec 4) (h : HdrFields) (tail : Bytes) :
    decodeBcsp (hdrWordBytes type h ++ tail) = .ok (bcspRow type h tail) := by
  obtain ⟨hseq, hack, hcrc, hrel⟩ := hdrByte0_fields h.seq h.ack h.crcPresent h.reliable
  simp only [hdrWordBytes, List.cons_append, List.nil_append, decodeBcsp, hdrFields, hdrByte1_type,
    hdrLength_of_bytes, hseq, hack, hcrc, hrel]

theorem decode_of_encodeBcsp {type : BitVec 4} {h : HdrFields} {tail bs : Bytes} {f : WireFormat}
    (he : encodeBcsp type h tail = some (f, bs)) : decode f bs = .ok (bcspRow type h tail) := by
  cases he
  exact decodeBcsp_hdrWordBytes type h tail

/-- The row of a type code is well formed and encodes with that code, for each of the sixteen codes (R137, R144). -/
theorem bcspRow_spec (type : BitVec 4) (h : HdrFields) (tail : Bytes) :
    (bcspRow type h tail).wf = true ∧ encode (bcspRow type h tail) = encodeBcsp type h tail := by
  obtain ⟨n, hn, rfl⟩ : ∃ n < 16, type = BitVec.ofNat 4 n := ⟨type.toNat, type.isLt, by simp⟩
  interval_cases n <;> exact ⟨rfl, rfl⟩

/-- What the header decoder reads stands for exactly the bytes it read. -/
theorem encode_of_decodeBcsp {bs : Bytes} {i : Instr} (hd : decodeBcsp bs = .ok i) :
    i.wf = true ∧ encode i = some (.bcsp, bs) := by
  match bs, hd with
  | b0 :: b1 :: b2 :: b3 :: tail, hd =>
    cases hd
    obtain ⟨hwf, henc⟩ := bcspRow_spec (hdrType b1) (hdrFields b0 b1 b2 b3) tail
    exact ⟨hwf, by rw [henc, encodeBcsp, hdrWordBytes_of_fields]; rfl⟩

/-! ### SLIP symbols -/

theorem decodeSlip_badEsc {x : Byte} (hx : badEscSuccessor x = true) :
    decodeSlip [Config.slipEsc, x] = .ok (.slipBadEsc (some x)) := by
  simp only [badEscSuccessor, Bool.and_eq_true, decide_eq_true_eq] at hx
  obtain ⟨⟨⟨hEnd, hEsc⟩, hXon⟩, hXoff⟩ := hx
  simp only [decodeSlip, if_true, if_neg hEnd, if_neg hEsc, if_neg hXon, if_neg hXoff]

theorem decodeSlip_lit {b : Byte} (hEnd : b ≠ Config.slipEnd) (hEsc : b ≠ Config.slipEsc) :
    decodeSlip [b] = .ok (.slipLit b) := by
  simp only [decodeSlip, if_neg hEnd, if_neg hEsc]

/-- What the symbol decoder reads stands for exactly the bytes it read (R131, R144). -/
theorem encode_of_decodeSlip {bs : Bytes} {i : Instr} (hd : decodeSlip bs = .ok i) :
    i.wf = true ∧ encode i = some (.slip, bs) := by
  match bs, hd with
  | [b], hd =>
    simp only [decodeSlip] at hd
    split_ifs at hd with hEnd hEsc <;> cases hd
    · exact ⟨rfl, by rw [hEnd]; rfl⟩
    · exact ⟨rfl, by rw [hEsc]; rfl⟩
    · exact ⟨by simp [Instr.wf, hEnd, hEsc], rfl⟩
  | [b, x], hd =>
    simp only [decodeSlip] at hd
    split_ifs at hd with hb hEnd hEsc hXon hXoff <;> cases hd <;> subst hb
    · exact ⟨rfl, by rw [hEnd]; rfl⟩
    · exact ⟨rfl, by rw [hEsc]; rfl⟩
    · exact ⟨rfl, by rw [hXon]; rfl⟩
    · exact ⟨rfl, by rw [hXoff]; rfl⟩
    · exact ⟨by simp [Instr.wf, badEscSuccessor, hEnd, hEsc, hXon, hXoff], rfl⟩

/-! ### Link-control payloads -/

/-- The payload each message stands for (R139). -/
def lcBytes : LcMsg → Option Bytes
  | .sync => some (lcPayload .sync none)
  | .syncResp => some (lcPayload .syncResp none)
  | .conf c => some (lcPayload .conf c)
  | .confResp c => some (lcPayload .confResp c)
  | .wakeup => some (lcPayload .wakeup none)
  | .woken => some (lcPayload .woken none)
  | .sleep => some (lcPayload .sleep none)
  | .unknown => none

/-- `lc_decode` recognises the payload of each message (R141). -/
theorem lcDecode_of_lcBytes {m : LcMsg} {p : Bytes} (h : lcBytes m = some p) : lcDecode p = m := by
  cases m with
  | conf c => cases h; cases c <;> rfl
  | confResp c => cases h; cases c <;> rfl
  | unknown => cases h
  | _ => cases h; rfl

/-- `lc_decode` recognises a message by exactly its payload (R141). -/
theorem lcBytes_lcDecode {p : Bytes} (h : lcDecode p ≠ .unknown) : lcBytes (lcDecode p) = some p := by
  match p, h with
  | [], h | [_], h | _ :: _ :: _ :: _ :: _, h => exact absurd rfl h
  | [a, b], h =>
    simp only [lcDecode, lcDecode2] at h ⊢
    split_ifs at h ⊢ with hm hm hm hm hm hm hm
    case neg => exact absurd rfl h
    all_goals cases hm; rfl
  | [a, b, c], h =>
    simp only [lcDecode, lcDecode3] at h ⊢
    split_ifs at h ⊢ with hm hm
    case neg => exact absurd rfl h
    all_goals cases hm; rfl

/-- A payload is read as a message other than `unknown` exactly when it is that message's (R141). -/
theorem lcDecode_eq_iff {p : Bytes} {m : LcMsg} (hm : m ≠ .unknown) : lcDecode p = m ↔ lcBytes m = some p := by
  constructor
  · rintro rfl
    exact lcBytes_lcDecode hm
  · exact lcDecode_of_lcBytes

/-- What the payload decoder reads stands for exactly the bytes it read. -/
theorem encode_of_decodeLc {p : Bytes} {i : Instr} (hd : decodeLc p = .ok i) :
    i.wf = true ∧ encode i = some (.lc, p) := by
  unfold decodeLc at hd
  by_cases hu : lcDecode p = .unknown
  · rw [hu] at hd
    cases hd
    exact ⟨decide_eq_true hu, rfl⟩
  have hp := lcBytes_lcDecode hu
  cases hm : lcDecode p with
  | unknown => exact absurd hm hu
  | conf c => rw [hm] at hd hp; cases hp; cases c <;> cases hd <;> exact ⟨rfl, rfl⟩
  | confResp c => rw [hm] at hd hp; cases hp; cases c <;> cases hd <;> exact ⟨rfl, rfl⟩
  | _ => rw [hm] at hd hp; cases hp; cases hd; exact ⟨rfl, rfl⟩

/-! ### The configuration byte and H4 units -/

theorem decodeCfg_cfgByte (w : BitVec 3) (f c : Bool) (v : BitVec 2) :
    decodeCfg [cfgByte w f c v] = .ok (.cfg w f c v) := by
  obtain ⟨hw, hf, hc, hv⟩ := cfg_fields_of_byte w f c v
  simp only [decodeCfg, hw, hf, hc, hv]

/-- The configuration byte is read but for its reserved bit 7 (R140). -/
theorem encode_of_decodeCfg {bs : Bytes} {i : Instr} (hd : decodeCfg bs = .ok i) :
    i.wf = true ∧ encode i = some (.cfg, bs.map (· &&& 0x7F)) := by
  match bs, hd with
  | [c], hd =>
    cases hd
    exact ⟨rfl, by rw [encode, cfg_byte_of_fields]; rfl⟩

theorem decodeH4_unknown {t : Byte} (ht : h4CodeUnknown t = true) (rest : Bytes) :
    decodeH4 (t :: rest) = .ok (.h4Unknown t rest) := by
  simp only [h4CodeUnknown, Bool.and_eq_true, decide_eq_true_eq] at ht
  obtain ⟨⟨⟨hCmd, hAcl⟩, hEvt⟩, hIso⟩ := ht
  simp only [decodeH4, if_neg hCmd, if_neg hAcl, if_neg hEvt, if_neg hIso]

/-- What the unit decoder reads stands for exactly the bytes it read (R142). -/
theorem encode_of_decodeH4 {bs : Bytes} {i : Instr} (hd : decodeH4 bs = .ok i) :
    i.wf = true ∧ encode i = some (.h4t, bs) := by
  match bs, hd with
  | t :: rest, hd =>
    simp only [decodeH4] at hd
    split_ifs at hd with hCmd hAcl hEvt hIso <;> cases hd
    · exact ⟨rfl, by rw [hCmd]; rfl⟩
    · exact ⟨rfl, by rw [hAcl]; rfl⟩
    · exact ⟨rfl, by rw [hEvt]; rfl⟩
    · exact ⟨rfl, by rw [hIso]; rfl⟩
    · exact ⟨by simp [Instr.wf, h4CodeUnknown, hCmd, hAcl, hEvt, hIso], rfl⟩

/-! ### The three statements -/

/-- Settles O1, row by row: the BCSP rows by their header word, the rows with an open operand by the condition that keeps
the operand off the earlier rows, the fixed words by computation; the rows of format OP have no encoding. -/
theorem decodingAnEncodingGivesTheInstruction : Obligations.DecodingAnEncodingGivesTheInstruction := by
  intro i f bs hwf he
  cases i with
  | bcspAck | bcspCmd | bcspAcl | bcspEvt | bcspIso | bcspVnd | bcspLink | bcspRsvd3 | bcspRsvd6 | bcspRsvd7
  | bcspRsvd8 | bcspRsvd9 | bcspRsvd10 | bcspRsvd11 | bcspRsvd12 | bcspRsvd13 => exact (decode_of_encodeBcsp he :)
  | slipBadEsc x =>
    cases he
    cases x with
    | none => rfl
    | some x => exact decodeSlip_badEsc hwf
  | slipLit b =>
    cases he
    simp only [Instr.wf, Bool.and_eq_true, decide_eq_true_eq] at hwf
    exact decodeSlip_lit hwf.1 hwf.2
  | lcUnknown p =>
    cases he
    simp only [Instr.wf, decide_eq_true_eq] at hwf
    simp only [decode, decodeLc, hwf]
  | cfg w f c v =>
    cases he
    exact decodeCfg_cfgByte w f c v
  | h4Unknown t rest =>
    cases he
    exact decodeH4_unknown hwf rest
  | slipEnd | slipEscEnd | slipEscEsc | slipEscXon | slipEscXoff | lcSync | lcSyncResp | lcConf | lcConfResp | lcWakeup
  | lcWoken | lcSleep | lcConfCfg | lcConfRespCfg | h4Cmd | h4Acl | h4Evt | h4Iso =>
    cases he
    rfl
  | _ => exact nomatch he

/-- Settles O2, layer by layer. -/
theorem decodedInstructionEncodesToItsBytes : Obligations.DecodedInstructionEncodesToItsBytes := by
  intro f bs i hd
  cases f with
  | slip => exact encode_of_decodeSlip hd
  | bcsp => exact encode_of_decodeBcsp hd
  | lc => exact encode_of_decodeLc hd
  | cfg => exact encode_of_decodeCfg hd
  | h4t => exact encode_of_decodeH4 hd

/-- Settles O3: the decoder evaluated on the seven words. -/
theorem writtenOutWordsDecode : Obligations.WrittenOutWordsDecode :=
  ⟨rfl, rfl, rfl, rfl, rfl, rfl, rfl⟩

end Sys2Proof
end

section
/-! Everything an instruction can do to the state, said once (00_scope.md R14, R15): the effects a step is made of, and
that every instruction that answers a next state had one of them and then left its answer. The invariants are proved
effect by effect. -/

namespace Sys2Proof.Machine

/-- What an instruction `i` that takes a step has done to the state `s`, but for the answer it leaves. -/
inductive Effect (i : Instr) (s : State) : State → Prop where
  /-- it changed nothing: a pure function, a refused request, an operation that is not enabled -/
  | nothing : Effect i s s
  /-- SLIP.COLLECT (R202) -/
  | scanned (c : Collected) (hd : c.draws <:+ s.allocDraws) : Effect i s (s.afterScan c)
  /-- SLIP.RESYNC (R204) -/
  | resynced (c : Collected) (hd : c.draws <:+ s.allocDraws) : Effect i s ((raiseFault .alloc s).afterScan c)
  /-- BCSP.PACK (R233) -/
  | numbered (payload : Bytes) (type : BitVec 4) (reliable : Bool) (ack : Count3) (useCrc : Bool)
      (hi : i = .bcspPack payload type reliable ack useCrc) : Effect i s (s.bumpSeq reliable)
  /-- UP.SEND (R271) -/
  | queued (u : QUnit) (htag : upperTag u.tag = true) (hlen : u.payload.length ≤ Config.maxPayload) :
      Effect i s (s.dropAllocDraw.enqueue u).scheduleWorker
  /-- UP.SEND at a failed allocation (R443) -/
  | dropped : Effect i s (raiseFault .alloc s.dropAllocDraw)
  /-- TX.STEP (R272) -/
  | worked (t : State) (h : (txStep s).ends = some t) : Effect i s t
  /-- RUN (R147) -/
  | ran (n : Nat) (t : State) (h : (runLoop n s).ends = some t) : Effect i s t
  /-- TX.FRAME and TX.ACKFRAME (R273, R274) -/
  | framed (u : QUnit) (reliable : Bool) (t : State) (hi : reliable = true → i = .txFrame u reliable)
      (h : (txFrame u reliable s).ends = some t) : Effect i s t
  /-- PWR.SEND_WAKEUP and TX.WAKE (R368, R370) -/
  | woke (t : State) (h : (sendWakeup s).ends = some t) : Effect i s t
  /-- WAKE.WORK (R366) -/
  | wakeWorked (t : State) (h : (wakeWork s).ends = some t) : Effect i s t
  /-- WAKE.TIMEOUT (R147) -/
  | wakeTimedOut (t : State) (h : (wakeWork (wakeFire s)).ends = some t) : Effect i s t
  /-- PHY.WRITE, CHAIN.SEND_BYTES and H4.SEND_FRAME (R392, R397, R422) -/
  | wrote (bs : Bytes) (t : State) (h : (writeSink bs s).ends = some t) : Effect i s t
  /-- RX.FRAME (R277) -/
  | received (f : Bytes) : Effect i s (rxFrame f s)
  /-- RX.BYTES (R396) -/
  | receivedRun (bs : Bytes) : Effect i s (rxBytes bs s)
  /-- H4.RECV_BYTES (R423) -/
  | receivedH4 (bs : Bytes) : Effect i s (h4Bytes bs s)
  /-- ARQ.RX_SEQ (R278) -/
  | accepted : Effect i s (acceptSeq s)
  /-- ARQ.RX_ACK (R279) -/
  | acknowledged (a : Count3) : Effect i s (rxAck a s)
  /-- ARQ.DELIVER (R280) -/
  | delivered (h : Header) (p : Bytes) (arqOn : Bool) : Effect i s (deliver h p arqOn s)
  /-- raise_Fault (R446) -/
  | reported (r : Report) : Effect i s (raiseFault r s)
  /-- RTX.FIRE (R281) -/
  | rtxFired : Effect i s (rtxFire s)
  /-- RTX.WORK (R282) -/
  | rtxWorked : Effect i s (rtxWork s)
  /-- RTX.TIMEOUT (R147) -/
  | rtxTimedOut : Effect i s (rtxWork (rtxFire s))
  /-- ARQ.TIMEOUT (R283) -/
  | arqTimedOut : Effect i s (arqTimeout s)
  /-- ARQ.RELOAD (R284) -/
  | reloaded : Effect i s (arqReload s)
  /-- LINK.DISPATCH and the operations it runs (R320) -/
  | dispatched (m : LcMsg) : Effect i s (linkDispatch m s)
  /-- LINK.TIMEOUT (R321) -/
  | linkTimedOut : Effect i s (linkTimeout s)
  /-- LINK.ENTER_ACTIVE (R326) -/
  | entered (hi : i = .linkEnterActive) : Effect i s (enterActive s)
  /-- CFG (R140) -/
  | configured (w : BitVec 3) (f c : Bool) (v : BitVec 2) (hi : i = .cfg w f c v) :
      Effect i s (enterActive { s with cfgPeer := some (cfgByte w f c v) })
  /-- LINK.SEND (R327) -/
  | sent (m : LcName) (cfg : Option Byte) : Effect i s (linkSend m cfg s)
  /-- PWR.SLEEP_REQ (R364) -/
  | slept (h : s.localState = .active) : Effect i s (sleepReq s)
  /-- WAKE.FIRE (R365) -/
  | wakeFired : Effect i s (wakeFire s)
  /-- GUARD.ELAPSE (R369) -/
  | guardElapsed : Effect i s ({ s with guardWait := false } : State).scheduleWorker
  /-- CHAIN.RECV_FRAME (R393) -/
  | emitted (u : QUnit) (htag : upperTag u.tag = true) : Effect i s (s.emitUp u)
  /-- SYS.INIT (R490) -/
  | initialised (p : Params) (hi : i = .sysInit p) : Effect i s (s.initWith p)
  /-- SYS.TEARDOWN (R492) -/
  | tornDown (hi : i = .sysTeardown) : Effect i s s.teardown

/-- Where the outcome is a next state, that state is an effect of `i` followed by the answer. -/
def ByEffect (i : Instr) (s : State) (o : Host.Outcome State Fault Refusal) : Prop :=
  ∀ t, o = .next t → ∃ u a, Effect i s u ∧ t = u.answering a

namespace ByEffect

variable {i : Instr} {s : State}

theorem next {u : State} {a : Answer} (h : Effect i s u) : ByEffect i s (.next (u.answering a)) := by
  rintro t ht
  cases ht
  exact ⟨u, a, h, rfl⟩

theorem turnedAway : ByEffect i s (turnedAway s) := next .nothing

theorem refusedCall : ByEffect i s (refusedCall s) := next .nothing

theorem outcome {f : Flow} {a : Answer} (h : ∀ u, f.ends = some u → Effect i s u) : ByEffect i s (f.outcome a) := by
  intro t ht
  obtain ⟨u, b, hu, rfl⟩ := outcome_next ht
  exact ⟨u, b, h u hu, rfl⟩

theorem ite {c : Prop} [Decidable c] {o o' : Host.Outcome State Fault Refusal} (h : c → ByEffect i s o)
    (h' : ByEffect i s o') : ByEffect i s (if c then o else o') := by
  split
  case isTrue hc => exact h hc
  case isFalse => exact h'

/-- An operation that, where it is enabled, runs to its end, and else takes no step. -/
theorem enabled {b : Bool} {u : State} {a : Answer} (h : Effect i s u) :
    ByEffect i s (if b then .next (u.answering a) else Machine.turnedAway s) :=
  ite (fun _ => next h) turnedAway

/-- The same for an operation that writes to the sink. -/
theorem enabledFlow {b : Bool} {f : Flow} {a : Answer} (h : ∀ u, f.ends = some u → Effect i s u) :
    ByEffect i s (if b then f.outcome a else Machine.turnedAway s) :=
  ite (fun _ => outcome h) turnedAway

theorem upSend (tag : Tag) (payload : Bytes) : ByEffect i s (execUpSend tag payload s) := by
  refine ite (fun _ => ite (fun h => ite (fun _ => next ?_) (next .dropped)) refusedCall) turnedAway
  simp only [Bool.and_eq_true, decide_eq_true_eq] at h
  exact .queued ⟨tag, payload⟩ h.1 h.2

theorem arqRxSeq (n : Count3) : ByEffect i s (execArqRxSeq n s) :=
  ite (fun _ => enabled .accepted) (enabled (.reported _))

theorem pwrSleepReq : ByEffect i s (execPwrSleepReq s) := by
  refine ite (fun h => next (.slept ?_)) turnedAway
  simp only [State.sleepReqEnabled, Bool.and_eq_true, decide_eq_true_eq] at h
  exact h.1.1.2

theorem chainRecvFrame (tag : Tag) (p : Bytes) : ByEffect i s (execChainRecvFrame tag p s) := by
  refine ite (fun _ => ite (fun h => next (.emitted ⟨tag, p⟩ ?_)) refusedCall) turnedAway
  simp only [Bool.and_eq_true] at h
  exact h.1

theorem h4SendFrame (tag : Tag) (payload : Bytes) : ByEffect i s (execH4SendFrame tag payload s) := by
  refine ite (fun _ => ?_) turnedAway
  cases h4Code s.params tag with
  | none => exact refusedCall
  | some code => exact ite (fun _ => outcome (.wrote _)) refusedCall

end ByEffect

/-- Every instruction that answers a next state had one of the effects. -/
theorem exec_byEffect (i : Instr) (s : State) : ByEffect i s (exec i s) := by
  cases i with
  | slipEncode | slipDecode | crcUpdate | crc16 | hdrChecksum | bcspUnpack | arqClassify | negotiate | chainNext
  | chainPrev | sizerLen => exact .enabled .nothing
  | slipCollect buf incoming => exact .enabled (.scanned _ (slipCollect_spec _ _ _).2.1)
  | slipResync incoming k => exact .enabled (.resynced _ (slipCollect_spec _ _ _).2.1)
  | bcspPack payload type reliable ack useCrc => exact .enabled (.numbered _ _ _ _ _ rfl)
  | upSend tag payload => exact .upSend tag payload
  | txStep => exact .enabledFlow .worked
  | txFrame u reliable => exact .enabledFlow fun t => .framed u reliable t fun _ => rfl
  | txAckFrame => exact .enabledFlow fun t => .framed ackUnit false t nofun
  | rxFrame f => exact .enabled (.received f)
  | arqRxSeq n => exact .arqRxSeq n
  | arqRxAck a => exact .enabled (.acknowledged a)
  | arqDeliver h p arqOn => exact .enabled (.delivered h p arqOn)
  | rtxFire => exact .enabled .rtxFired
  | rtxWork => exact .enabled .rtxWorked
  | rtxTimeout => exact .enabled .rtxTimedOut
  | arqTimeout => exact .enabled .arqTimedOut
  | arqReload => exact .enabled .reloaded
  | linkDispatch m => exact .enabled (.dispatched m)
  | linkTimeout => exact .enabled .linkTimedOut
  | linkRxSync => exact .enabled (.dispatched .sync)
  | linkRxSyncResp => exact .enabled (.dispatched .syncResp)
  | linkRxConf cfg => exact .enabled (.dispatched (.conf cfg))
  | linkRxConfResp cfg => exact .enabled (.dispatched (.confResp cfg))
  | linkEnterActive => exact .enabled (.entered rfl)
  | linkSend m cfg => exact .enabled (.sent m cfg)
  | pwrRxWakeup => exact .enabled (.dispatched .wakeup)
  | pwrRxWoken => exact .enabled (.dispatched .woken)
  | pwrRxSleep => exact .enabled (.dispatched .sleep)
  | pwrSleepReq => exact .pwrSleepReq
  | wakeFire => exact .enabled .wakeFired
  | wakeWork => exact .enabledFlow .wakeWorked
  | wakeTimeout => exact .enabledFlow .wakeTimedOut
  | txWake | pwrSendWakeup => exact .enabledFlow .woke
  | guardElapse => exact .enabled .guardElapsed
  | run => exact .enabledFlow (.ran _)
  | peer d => exact .enabled (.receivedRun _)
  | chainSendBytes bs => exact .ite (fun _ => .ite (fun _ => .outcome (.wrote _)) .refusedCall) .turnedAway
  | chainRecvFrame tag p => exact .chainRecvFrame tag p
  | rxBytes bs => exact .enabled (.receivedRun bs)
  | phyWrite bs => exact .enabledFlow (.wrote bs)
  | h4SendFrame tag payload => exact .h4SendFrame tag payload
  | h4RecvBytes | h4Cmd | h4Acl | h4Evt | h4Iso | h4Unknown => exact .enabled (.receivedH4 _)
  | sysInit p => exact .ite (fun _ => .next (.initialised p rfl)) .refusedCall
  | sysTeardown => exact .enabled (.tornDown rfl)
  | raiseFault r => exact .enabled (.reported r)
  | slipEnd | slipEscEnd | slipEscEsc | slipEscXon | slipEscXoff | slipBadEsc | slipLit =>
    exact .enabled (.receivedRun _)
  | bcspAck | bcspCmd | bcspAcl | bcspEvt | bcspIso | bcspVnd | bcspLink | bcspRsvd3 | bcspRsvd6 | bcspRsvd7
  | bcspRsvd8 | bcspRsvd9 | bcspRsvd10 | bcspRsvd11 | bcspRsvd12 | bcspRsvd13 => exact .enabled (.received _)
  | lcSync | lcSyncResp | lcConf | lcConfResp | lcWakeup | lcWoken | lcSleep | lcConfCfg | lcConfRespCfg
  | lcUnknown => exact .enabled (.dispatched _)
  | cfg w f c v => exact .enabled (.configured w f c v rfl)

/-- Everything a step can do: it leaves an idle block as it is, refuses a call the chain has no node for, or runs the
instruction it fetched after its event is taken. -/
theorem step_cases {s t : State} (h : step s = .next t) :
    (fetch s = .idle ∧ t = s) ∨ (fetch s = .refusedCall ∧ t = s.popEvent.answering .refused) ∨
      ∃ i u a, fetch s = .instr i ∧ i.wf = true ∧ Effect i s.popEvent u ∧ t = u.answering a := by
  unfold step at h
  split at h
  next he => cases h; exact .inl ⟨he, rfl⟩
  next he => cases h; exact .inr (.inl ⟨he, rfl⟩)
  next i he =>
    split at h
    next hwf =>
      obtain ⟨u, a, hu, rfl⟩ := exec_byEffect i _ t h
      exact .inr (.inr ⟨i, u, a, he, hwf, hu, rfl⟩)
    next => cases h

end Sys2Proof.Machine
end

section
/-! The loops of the model, each with its induction done once: what one turn keeps, the loop keeps. -/

namespace Sys2Proof.Machine

/-- What TX.STEP keeps, RUN keeps (R147). -/
theorem runLoop_keeps {P : State → Prop} (hstep : ∀ s t, P s → (txStep s).ends = some t → P t) {n : Nat} {s t : State}
    (h : P s) (ht : (runLoop n s).ends = some t) : P t := by
  induction n generalizing s with
  | zero => cases ht; exact h
  | succ n ih =>
    rw [runLoop] at ht
    split at ht
    case isFalse => cases ht; exact h
    case isTrue =>
      cases e : txStep s with
      | go u => rw [e] at ht; exact ih (hstep s u h (by rw [e]; rfl)) ht
      | abandoned _ => rw [e] at ht; cases ht; exact hstep s t h (by rw [e]; rfl)
      | stop _ => rw [e] at ht; cases ht; exact hstep s t h (by rw [e]; rfl)
      | stall => rw [e] at ht; cases ht

/-- What a scan and RX.FRAME keep, RX.BYTES keeps (R396). -/
theorem rxLoop_keeps {P : State → Prop}
    (hopen : ∀ s bs, P s → (slipCollect s.allocDraws s.collector bs).completed = false →
      P { s.afterScan (slipCollect s.allocDraws s.collector bs) with
        collector := (slipCollect s.allocDraws s.collector bs).buf })
    (hdone : ∀ s bs, P s → (slipCollect s.allocDraws s.collector bs).completed = true →
      P { s.afterScan (slipCollect s.allocDraws s.collector bs) with collector := none })
    (hframe : ∀ f s, P s → P (rxFrame f s)) (n : Nat) (bs : Bytes) {s : State} (h : P s) : P (rxLoop n bs s) := by
  induction n generalizing bs s with
  | zero => exact h
  | succ n ih =>
    cases bs with
    | nil => exact h
    | cons b bs =>
      by_cases hh : s.halted = true
      · rw [rxLoop_halted _ _ _ hh]; exact h
      · rw [rxLoop_succ _ _ _ _ (Bool.eq_false_iff.mpr hh)]
        split
        case isTrue hc => exact ih _ (hframe _ _ (hdone s _ h hc))
        case isFalse hc => exact hopen s _ h (Bool.eq_false_iff.mpr hc)

/-- What the H4 collector's update and an emission keep, H4.RECV_BYTES keeps (R423). -/
theorem h4Bytes_keeps {P : State → Prop} (hcollect : ∀ s c, P s → P (s.withH4 c))
    (hemit : ∀ s t tag rest, P s → h4Tag s.params t = some tag → P (recvFrameFrom .h4Adapter ⟨tag, rest⟩ s))
    (bs : Bytes) {s : State} (h : P s) : P (h4Bytes bs s) := by
  refine List.foldlRecOn bs h4Byte h fun s hs b _ => ?_
  obtain ⟨t, rest, -, ⟨-, e⟩ | ⟨-, e⟩ | ⟨n, -, -, e⟩ | ⟨tag, -, ht, e⟩⟩ := h4Byte_cases s b <;> rw [e]
  case inr.inr.inr => exact hcollect _ _ (hemit s t tag rest hs ht)
  all_goals exact hcollect s _ hs

end Sys2Proof.Machine
end

section
/-! The form of parameters, storage and registers (`StorageInv`): kept by every effect (R7 to R9, R36, R37, R48, R271,
R329, R453). -/

namespace Sys2Proof.Machine

/-! ### Queues, payloads, tags, windows -/

theorem queueOk_append {q r : List QUnit} (hq : queueOk q) (hr : queueOk r) : queueOk (q ++ r) :=
  List.forall_mem_append.mpr ⟨hq, hr⟩

theorem upperUnits_append {q r : List QUnit} (hq : upperUnits q) (hr : upperUnits r) : upperUnits (q ++ r) :=
  List.forall_mem_append.mpr ⟨hq, hr⟩

theorem queueOk_singleton {u : QUnit} (h : u.payload.length ≤ Config.maxPayload) : queueOk [u] :=
  List.forall_mem_singleton.mpr h

theorem upperUnits_singleton {u : QUnit} (h : upperTag u.tag = true) : upperUnits [u] :=
  List.forall_mem_singleton.mpr h

theorem queueOk_drop {q : List QUnit} (h : queueOk q) (k : Nat) : queueOk (q.drop k) :=
  fun u hu => h u (List.mem_of_mem_drop hu)

theorem upperUnits_drop {q : List QUnit} (h : upperUnits q) (k : Nat) : upperUnits (q.drop k) :=
  fun u hu => h u (List.mem_of_mem_drop hu)

theorem queueOk_head {u : QUnit} {q : List QUnit} (h : queueOk (u :: q)) : queueOk [u] :=
  queueOk_singleton (h u List.mem_cons_self)

theorem upperUnits_head {u : QUnit} {q : List QUnit} (h : upperUnits (u :: q)) : upperUnits [u] :=
  upperUnits_singleton (h u List.mem_cons_self)

theorem queueOk_tail {u : QUnit} {q : List QUnit} (h : queueOk (u :: q)) : queueOk q :=
  fun v hv => h v (List.mem_cons_of_mem u hv)

theorem upperUnits_tail {u : QUnit} {q : List QUnit} (h : upperUnits (u :: q)) : upperUnits q :=
  fun v hv => h v (List.mem_cons_of_mem u hv)

/-- A link-control payload has at most three bytes (R139). -/
theorem lcPayload_length_le (m : LcName) (c : Option Byte) : (lcPayload m c).length ≤ Config.maxPayload := by
  cases c <;> simp [lcPayload, Config.maxPayload]

/-- Only the tags of the upper layer have a type that is delivered (R280). -/
theorem upperTag_of_tagOf {type : BitVec 4} {tag : Tag} (h : tagOf type = some tag) : upperTag tag = true := by
  unfold tagOf at h
  split_ifs at h <;> cases h <;> rfl

/-- Only the tags of the upper layer have an H4 code (R142). -/
theorem upperTag_of_h4Tag {p : Params} {t : Byte} {tag : Tag} (h : h4Tag p t = some tag) : upperTag tag = true := by
  unfold h4Tag at h
  split_ifs at h <;> cases h <;> rfl

theorem w0_bounds {p : Params} (h : p.wf = true) : 1 ≤ p.w0 ∧ p.w0 ≤ 7 := by
  simp only [Params.wf, Bool.and_eq_true, decide_eq_true_eq] at h
  exact ⟨h.1.1.1.1, h.1.1.1.2⟩

/-- Every committed window is in 1..7: the field's own value, or `W0` for the reserved 0 (R37, R140, R326). -/
theorem windowToCommit_bounds {s : State} (h : s.params.wf = true) : 1 ≤ s.windowToCommit ∧ s.windowToCommit ≤ 7 := by
  have hw0 := w0_bounds h
  unfold State.windowToCommit
  split
  next => exact hw0
  next c _ =>
    unfold committedWindow
    split_ifs with hc
    · exact hw0
    · have hpos : (cfgWindow c).toNat ≠ 0 := fun h0 => hc (BitVec.eq_of_toNat_eq h0)
      have hlt := (cfgWindow c).isLt
      omega

namespace StorageInv

variable {s t : State}

/-! ### The updates -/

theorem answering (h : StorageInv s) (a : Answer) : StorageInv (s.answering a) := { h with }

theorem popEvent (h : StorageInv s) : StorageInv s.popEvent := { h with }

theorem dropAllocDraw (h : StorageInv s) : StorageInv s.dropAllocDraw := { h with }

theorem scheduleWorker (h : StorageInv s) : StorageInv s.scheduleWorker := { h with }

theorem raiseFault (h : StorageInv s) (r : Report) : StorageInv (raiseFault r s) := { h with }

theorem afterScan (h : StorageInv s) (c : Collected) : StorageInv (s.afterScan c) := { h with }

theorem emitUp (h : StorageInv s) {u : QUnit} (hu : upperTag u.tag = true) : StorageInv (s.emitUp u) :=
  { h with upRx := upperUnits_append h.upRx (upperUnits_singleton hu) }

theorem linkSend (h : StorageInv s) (m : LcName) (c : Option Byte) : StorageInv (linkSend m c s) :=
  { h with unrelQ := queueOk_append h.unrelQ (queueOk_singleton (lcPayload_length_le m _)) }

theorem enqueue (h : StorageInv s) {u : QUnit} (htag : upperTag u.tag = true)
    (hlen : u.payload.length ≤ Config.maxPayload) : StorageInv (s.enqueue u) := by
  unfold State.enqueue
  split
  · exact { h with
      relQ := queueOk_append h.relQ (queueOk_singleton hlen)
      relTags := upperUnits_append h.relTags (upperUnits_singleton htag) }
  · exact { h with unrelQ := queueOk_append h.unrelQ (queueOk_singleton hlen) }

theorem arqReload (h : StorageInv s) : StorageInv (arqReload s) :=
  { h with
    relQ := queueOk_append h.sentQ h.relQ
    relTags := upperUnits_append h.sentTags h.relTags
    sentQ := nofun
    sentTags := nofun }

theorem acknowledge (h : StorageInv s) (k : Nat) (a : Count3) : StorageInv (acknowledge k a s) :=
  { h with sentQ := queueOk_drop h.sentQ k, sentTags := upperUnits_drop h.sentTags k }

theorem enterActive (h : StorageInv s) : StorageInv (enterActive s) :=
  { h with window := fun _ => windowToCommit_bounds h.params }

/-- Active is one of the values `peer_state` may take (R329). -/
theorem peerActive (h : StorageInv s) : StorageInv { s with peerState := .active } :=
  { h with peer := fun _ => ⟨nofun, nofun⟩ }

/-- LowPower is one of the values `peer_state` may take (R329). -/
theorem peerLowPower (h : StorageInv s) : StorageInv { s with peerState := .lowPower } :=
  { h with peer := fun _ => ⟨nofun, nofun⟩ }

theorem initWith {p : Params} (hp : p.wf = true) (h : StorageInv s) : StorageInv (s.initWith p) where
  params := hp
  collector := trivial
  unrelQ := nofun
  relQ := nofun
  sentQ := nofun
  relTags := nofun
  sentTags := nofun
  upRx := h.upRx
  window _ := w0_bounds hp
  peer _ := ⟨nofun, nofun⟩

/-- After SYS.TEARDOWN the queues are empty, and nothing is claimed of the registers of a context that does not exist
(R492). -/
theorem teardown (h : StorageInv s) : StorageInv s.teardown where
  params := h.params
  collector := trivial
  unrelQ := nofun
  relQ := nofun
  sentQ := nofun
  relTags := nofun
  sentTags := nofun
  upRx := h.upRx
  window := nofun
  peer := nofun

/-! ### Reception -/

theorem rxWoken (h : StorageInv s) : StorageInv (rxWoken s) := by
  have hpeer : StorageInv
      { s with peerState := .active, wakeTimer := .idle, wakeupPending := false, guardWait := false } :=
    { h.peerActive with }
  unfold Machine.rxWoken
  split
  · dsimp only
    split
    · exact hpeer.arqReload.scheduleWorker
    · exact hpeer.scheduleWorker
  · exact h

theorem rxWakeup (h : StorageInv s) : StorageInv (rxWakeup s) := by
  unfold Machine.rxWakeup
  split
  · exact { h.linkSend .woken none with }
  · exact h.rxWoken
  all_goals exact h

theorem rxSleep (h : StorageInv s) : StorageInv (rxSleep s) := by
  unfold Machine.rxSleep
  split
  · dsimp only
    split
    · exact { h.peerLowPower with }
    · exact h.peerLowPower
  · exact h

theorem rxSync (h : StorageInv s) : StorageInv (rxSync s) := by
  unfold Machine.rxSync
  split
  · exact h.linkSend .syncResp none
  · exact h.linkSend .syncResp none
  · exact h
  all_goals exact h.raiseFault _

theorem rxSyncResp (h : StorageInv s) : StorageInv (rxSyncResp s) := by
  unfold Machine.rxSyncResp
  split
  · exact { h.linkSend .conf (some (cfgLocal s.params)) with }
  all_goals exact h

theorem rxConf (h : StorageInv s) (cfg : Option Byte) : StorageInv (rxConf cfg s) := by
  have hsent : StorageInv (sendConfResp cfg s) := h.linkSend .confResp _
  unfold Machine.rxConf
  split
  · exact h
  · exact hsent.peerActive
  · exact hsent.peerActive.enterActive
  all_goals exact hsent

theorem rxConfResp (h : StorageInv s) (cfg : Option Byte) : StorageInv (rxConfResp cfg s) := by
  have hcaptured : StorageInv { s with rtxTimer := .idle, cfgPeer := cfg } := { h with }
  unfold Machine.rxConfResp
  split
  · dsimp only
    split
    · exact hcaptured.enterActive
    · exact { h with }
  all_goals exact h

theorem linkDispatch (h : StorageInv s) (m : LcMsg) : StorageInv (linkDispatch m s) := by
  cases m with
  | sync => exact h.rxSync
  | syncResp => exact h.rxSyncResp
  | conf cfg => exact h.rxConf cfg
  | confResp cfg => exact h.rxConfResp cfg
  | wakeup => exact h.rxWakeup
  | woken => exact h.rxWoken
  | sleep => exact h.rxSleep
  | unknown => exact h

theorem rxAck (h : StorageInv s) (a : Count3) : StorageInv (rxAck a s) := by
  unfold Machine.rxAck
  split
  · exact { h.acknowledge s.sentQ.length a with }
  · split
    · exact h.acknowledge _ a
    · exact h

theorem recvFrameFrom (h : StorageInv s) (k : NodeKind) {u : QUnit} (hu : upperTag u.tag = true) :
    StorageInv (recvFrameFrom k u s) := by
  unfold Machine.recvFrameFrom
  split
  · exact h.emitUp hu
  · exact h

theorem deliver (h : StorageInv s) (hd : Header) (p : Bytes) (arqOn : Bool) : StorageInv (deliver hd p arqOn s) := by
  unfold Machine.deliver
  split
  · exact h.linkDispatch _
  · split
    next tag htag =>
      split
      · exact h.recvFrameFrom .bcsp (upperTag_of_tagOf htag)
      · exact h
    next => exact h

theorem acceptSeq (h : StorageInv s) : StorageInv (acceptSeq s) := { h with }

theorem rxGood (h : StorageInv s) (hd : Header) (p : Bytes) : StorageInv (rxGood hd p s) := by
  unfold Machine.rxGood
  split_ifs
  · exact (h.acceptSeq.rxAck _).deliver _ _ _
  · exact h.raiseFault _
  · exact (h.rxAck _).deliver _ _ _
  · exact h.deliver _ _ _

theorem rxFrame (h : StorageInv s) (f : Bytes) : StorageInv (rxFrame f s) := by
  unfold Machine.rxFrame
  split
  case h_1 => exact h
  case h_6 hd p _ => exact h.rxGood hd p
  all_goals exact h.raiseFault _

/-- A scan keeps the collector's form (R48, R202). -/
theorem rxBytes (h : StorageInv s) (bs : Bytes) : StorageInv (rxBytes bs s) :=
  rxLoop_keeps
    (fun s bs hs hc => { hs with collector := (slipCollect_spec s.allocDraws s.collector bs).2.2.2.2.1 hs.collector hc })
    (fun _ _ hs _ => { hs with collector := trivial }) (fun f _ hs => hs.rxFrame f) _ bs h

theorem h4Bytes (h : StorageInv s) (bs : Bytes) : StorageInv (h4Bytes bs s) :=
  h4Bytes_keeps (fun _ _ hs => { hs with }) (fun _ _ _ _ hs ht => hs.recvFrameFrom .h4Adapter (upperTag_of_h4Tag ht)) bs h

/-! ### Timers -/

theorem linkTimeout (h : StorageInv s) : StorageInv (linkTimeout s) := by
  unfold Machine.linkTimeout
  split
  · exact { h.linkSend .sync none with }
  · exact { h.linkSend .conf (some (cfgLocal s.params)) with }
  all_goals exact h

theorem arqTimeout (h : StorageInv s) : StorageInv (arqTimeout s) := by
  have hcounted : StorageInv { s with retryCount := s.retryCount + 1 } := { h with }
  unfold Machine.arqTimeout
  split_ifs
  · exact h
  · exact h.raiseFault _
  · exact hcounted.arqReload

theorem rtxWork (h : StorageInv s) : StorageInv (rtxWork s) := by
  have hcleared : StorageInv { s with rtxWork := false } := { h with }
  unfold Machine.rtxWork
  dsimp only
  split
  · exact hcleared.linkTimeout
  · exact hcleared.linkTimeout
  · exact hcleared
  all_goals exact hcleared.arqTimeout

theorem rtxFire (h : StorageInv s) : StorageInv (rtxFire s) := { h with }

theorem wakeFire (h : StorageInv s) : StorageInv (wakeFire s) := { h with }

/-! ### Transmission -/

theorem sent (h : StorageInv s) (k : Sent s t) : StorageInv t where
  params := k.params ▸ h.params
  collector := k.collector ▸ h.collector
  unrelQ := k.unrelQ ▸ h.unrelQ
  relQ := k.relQ ▸ h.relQ
  sentQ := k.sentQ ▸ h.sentQ
  relTags := k.relQ ▸ h.relTags
  sentTags := k.sentQ ▸ h.sentTags
  upRx := k.upRx ▸ h.upRx
  window ha := k.window ▸ h.window (k.alive ▸ ha)
  peer ha := k.peerState ▸ h.peer (k.alive ▸ ha)

theorem txFrame {u : QUnit} {r : Bool} (h : StorageInv s) (ht : (txFrame u r s).ends = some t) : StorageInv t :=
  h.sent (txFrame_sent ht)

theorem sendWakeup (h : StorageInv s) (ht : (sendWakeup s).ends = some t) : StorageInv t := by
  rcases sendWakeup_cases s with ⟨u, e, e'⟩ | ⟨u, e, e'⟩ | ⟨u, e, e'⟩ | ⟨-, e'⟩ <;> rw [e'] at ht <;> cases ht
  · exact { h.txFrame (u := wakeupUnit) (t := u) (by rw [e]; rfl) with }
  all_goals exact h.txFrame (u := wakeupUnit) (by rw [e]; rfl)

theorem wakeWork (h : StorageInv s) (ht : (wakeWork s).ends = some t) : StorageInv t := by
  have hcleared : StorageInv { s with wakeWork := false } := { h with }
  unfold Machine.wakeWork at ht
  split at ht
  · exact hcleared.sendWakeup ht
  · cases ht; exact hcleared

/-- The unit at the head of `unrel_q` leaves it, or is put back (R272, R443). -/
theorem txUnreliable (h : StorageInv s) (ht : (txUnreliable s).ends = some t) : StorageInv t := by
  rcases txUnreliable_cases s with ⟨-, e⟩ | ⟨u, q, hq, -, hcases⟩
  · rw [e] at ht; cases ht; exact h
  have htaken : StorageInv { s with unrelQ := q } := { h with unrelQ := queueOk_tail (hq ▸ h.unrelQ) }
  rcases hcases with ⟨v, e', e⟩ | ⟨v, e', e⟩ | ⟨v, e', e⟩ | ⟨-, e⟩ <;> rw [e] at ht <;> cases ht
  · exact htaken.txFrame (by rw [e']; rfl)
  · have hv : StorageInv v := htaken.txFrame (by rw [e']; rfl)
    exact { hv with unrelQ := (hq ▸ h.unrelQ :) }
  · exact htaken.txFrame (by rw [e']; rfl)

/-- The unit at the head of `rel_q` moves to `sent_q`, or is put back (R272, R443). -/
theorem txReliable {sent : Bool} (h : StorageInv s) (ht : (txReliable s sent).ends = some t) : StorageInv t := by
  rcases txReliable_cases s sent with ⟨-, e⟩ | ⟨u, q, hq, -, hcases⟩
  · rw [e] at ht; cases ht; exact h
  have hrelQ : queueOk (u :: q) := hq ▸ h.relQ
  have hrelTags : upperUnits (u :: q) := hq ▸ h.relTags
  have htaken : StorageInv { s with relQ := q } :=
    { h with relQ := queueOk_tail hrelQ, relTags := upperUnits_tail hrelTags }
  rcases hcases with ⟨v, e', e⟩ | ⟨v, e', e⟩ | ⟨v, e', e⟩ | ⟨-, e⟩ <;> rw [e] at ht <;> cases ht
  · have hv : StorageInv v := htaken.txFrame (by rw [e']; rfl)
    exact { hv with
      sentQ := queueOk_append hv.sentQ (queueOk_head hrelQ)
      sentTags := upperUnits_append hv.sentTags (upperUnits_head hrelTags) }
  · have hv : StorageInv v := htaken.txFrame (by rw [e']; rfl)
    exact { hv with relQ := hrelQ, relTags := hrelTags }
  · exact htaken.txFrame (by rw [e']; rfl)

theorem txOwedAck {sent : Bool} (h : StorageInv s) (ht : (txOwedAck s sent).ends = some t) : StorageInv t := by
  rcases txOwedAck_cases s sent with ⟨-, e⟩ | ⟨-, ⟨v, e', e⟩ | ⟨v, e', e⟩ | ⟨v, e', e⟩ | ⟨-, e⟩⟩ <;>
    rw [e] at ht <;> cases ht
  · exact h
  all_goals exact h.txFrame (u := ackUnit) (by rw [e']; rfl)

theorem txStep (h : StorageInv s) (ht : (txStep s).ends = some t) : StorageInv t := by
  rcases txStep_cases s with
    ⟨-, e⟩ | ⟨-, ⟨v, e1, e⟩ | ⟨-, e⟩ | ⟨v, b, e1, ⟨w, e2, e⟩ | ⟨-, e⟩ | ⟨w, b', e2, e⟩⟩⟩ <;> rw [e] at ht
  · cases ht; exact { h with }
  · cases ht; exact h.txUnreliable (by rw [e1]; rfl)
  · cases ht
  · cases ht; exact (h.txUnreliable (t := v) (by rw [e1]; rfl)).txReliable (by rw [e2]; rfl)
  · cases ht
  · exact ((h.txUnreliable (t := v) (by rw [e1]; rfl)).txReliable (t := w) (by rw [e2]; rfl)).txOwedAck ht

/-! ### Every effect -/

theorem effect {i : Instr} (hwf : i.wf = true) (h : StorageInv s) (e : Effect i s t) : StorageInv t := by
  cases e with
  | nothing => exact h
  | scanned c => exact h.afterScan c
  | resynced c => exact (h.raiseFault .alloc).afterScan c
  | numbered => exact { h with }
  | queued u htag hlen => exact (h.dropAllocDraw.enqueue htag hlen).scheduleWorker
  | dropped => exact h.dropAllocDraw.raiseFault .alloc
  | worked _ ht => exact h.txStep ht
  | ran n _ ht => exact runLoop_keeps (fun _ _ hs hst => hs.txStep hst) h ht
  | framed u r _ _ ht => exact h.txFrame ht
  | woke _ ht => exact h.sendWakeup ht
  | wakeWorked _ ht => exact h.wakeWork ht
  | wakeTimedOut _ ht => exact h.wakeFire.wakeWork ht
  | wrote bs _ ht => exact h.sent (writeSink_sent ht)
  | received f => exact h.rxFrame f
  | receivedRun bs => exact h.rxBytes bs
  | receivedH4 bs => exact h.h4Bytes bs
  | accepted => exact h.acceptSeq
  | acknowledged a => exact h.rxAck a
  | delivered hd p arqOn => exact h.deliver hd p arqOn
  | reported r => exact h.raiseFault r
  | rtxFired => exact h.rtxFire
  | rtxWorked => exact h.rtxWork
  | rtxTimedOut => exact h.rtxFire.rtxWork
  | arqTimedOut => exact h.arqTimeout
  | reloaded => exact h.arqReload
  | dispatched m => exact h.linkDispatch m
  | linkTimedOut => exact h.linkTimeout
  | entered => exact h.enterActive
  | configured w f c v =>
    have hcaptured : StorageInv { s with cfgPeer := some (cfgByte w f c v) } := { h with }
    exact hcaptured.enterActive
  | sent m cfg => exact h.linkSend m cfg
  | slept => exact { h.linkSend .sleep none with }
  | wakeFired => exact h.wakeFire
  | guardElapsed => exact { h with }
  | emitted u htag => exact h.emitUp htag
  | initialised p hi => subst hi; exact h.initWith hwf
  | tornDown => exact h.teardown

end StorageInv

/-- Settles O58: the event is taken, the fetched instruction has one of its effects, the answer is left. -/
theorem everyStepKeepsTheStorageForm : Obligations.EveryStepKeepsTheStorageForm := by
  intro s t h hst
  rcases step_cases hst with ⟨-, rfl⟩ | ⟨-, rfl⟩ | ⟨i, u, a, -, hwf, he, rfl⟩
  · exact h
  · exact h.popEvent.answering _
  · exact (h.popEvent.effect hwf he).answering a

end Sys2Proof.Machine
end

section
/-! The sliding window invariant with the credit equation (10_state.md R36, 43_arq.md R286): kept by every effect, where
the helpers that write the counters alone are asked for where they belong. -/

namespace Sys2Proof.Machine

/-! ### How a frame ends -/

/-- A frame that went out, or that the chain had no sink for, is numbered and discharges an owed acknowledgement. -/
theorem txFrame_go {u : QUnit} {r : Bool} {s t : State} (h : txFrame u r s = .go t) :
    t.seq = (s.bumpSeq r).seq ∧ t.halted = s.halted ∧ t.ackRequired = false ∧ t.allocDraws = s.allocDraws.tail := by
  rcases txFrame_cases u r s with ⟨-, e⟩ | ⟨-, -, e⟩ | ⟨-, -, ds, -, e⟩ | ⟨-, -, n, ds, -, -, e⟩ | ⟨e, -⟩ <;>
    rw [e] at h <;> cases h <;> exact ⟨rfl, rfl, rfl, rfl⟩

/-- An abandoned frame leaves one ALLOC report and nothing else (R443). -/
theorem txFrame_abandoned {u : QUnit} {r : Bool} {s t : State} (h : txFrame u r s = .abandoned t) :
    allocOk s = false ∧ t = raiseFault .alloc s.dropAllocDraw := by
  rcases txFrame_cases u r s with ⟨ha, e⟩ | ⟨-, -, e⟩ | ⟨-, -, ds, -, e⟩ | ⟨-, -, n, ds, -, -, e⟩ | ⟨e, -⟩ <;>
    rw [e] at h <;> cases h
  exact ⟨ha, rfl⟩

/-- A frame that met a WRITE fault is numbered and halts the block (R446, R447). -/
theorem txFrame_stop {u : QUnit} {r : Bool} {s t : State} (h : txFrame u r s = .stop t) :
    t.seq = (s.bumpSeq r).seq ∧ t.halted = true := by
  rcases txFrame_cases u r s with ⟨-, e⟩ | ⟨-, -, e⟩ | ⟨-, -, ds, -, e⟩ | ⟨-, -, n, ds, -, -, e⟩ | ⟨e, -⟩ <;>
    rw [e] at h <;> cases h
  exact ⟨rfl, Bool.or_true _⟩

/-! ### Arithmetic of the counters -/

/-- An acknowledged part leaves the distance shorter by that part (R279). -/
theorem sub_toNat_of_acknowledged {seq rack a : Count3} (h : (a - rack).toNat ≤ (seq - rack).toNat) :
    (seq - a).toNat = (seq - rack).toNat - (a - rack).toNat := by
  bv_omega

/-- One more frame leaves the distance longer by one while it fits in three bits (R36). -/
theorem succ_sub_toNat {seq rack : Count3} (h : (seq - rack).toNat < 7) :
    (seq + 1 - rack).toNat = (seq - rack).toNat + 1 := by
  bv_omega

namespace WindowInv

variable {s t : State}

/-! ### The updates -/

/-- Nothing is claimed of a halted block (R447). -/
theorem of_halted (h : t.halted = true) : WindowInv t := by
  constructor <;> intro _ hh <;> rw [h] at hh <;> cases hh

/-- Nothing is claimed of a context that does not exist. -/
theorem of_not_alive (h : t.alive = false) : WindowInv t := by
  constructor <;> intro ha <;> rw [h] at ha <;> cases ha

theorem answering (h : WindowInv s) (a : Answer) : WindowInv (s.answering a) := { h with }

theorem popEvent (h : WindowInv s) : WindowInv s.popEvent := { h with }

theorem dropAllocDraw (h : WindowInv s) : WindowInv s.dropAllocDraw := { h with }

theorem scheduleWorker (h : WindowInv s) : WindowInv s.scheduleWorker := { h with }

theorem afterScan (h : WindowInv s) (c : Collected) : WindowInv (s.afterScan c) := { h with }

theorem emitUp (h : WindowInv s) (u : QUnit) : WindowInv (s.emitUp u) := { h with }

theorem linkSend (h : WindowInv s) (m : LcName) (c : Option Byte) : WindowInv (linkSend m c s) := { h with }

theorem acceptSeq (h : WindowInv s) : WindowInv (acceptSeq s) := { h with }

theorem raiseFault (h : WindowInv s) (r : Report) : WindowInv (raiseFault r s) := by
  cases hr : fatal r with
  | true => exact of_halted (by rw [raiseFault_of_fatal hr])
  | false => rw [raiseFault_of_not_fatal hr]; exact { h with }

theorem enqueue (h : WindowInv s) (u : QUnit) : WindowInv (s.enqueue u) := by
  unfold State.enqueue
  split <;> exact { h with }

/-- Between two sequencing states that are both up or both down nothing else is claimed. -/
theorem moveTo (h : WindowInv s) {l : LinkState} (hl : ({ s with localState := l } : State).linkActive = s.linkActive) :
    WindowInv { s with localState := l } where
  distance := h.distance
  bound := h.bound
  credit ha hh hact := h.credit ha hh (hl ▸ hact)
  quiet ha hh hact := h.quiet ha hh (hl ▸ hact)

/-- With the outstanding units gone back, `seq` is `rack` and credit is full (R284). -/
theorem arqReload (h : WindowInv s) : WindowInv (arqReload s) where
  distance ha hh := by
    have hback : s.seq - BitVec.ofNat 3 s.sentQ.length = s.rack := by
      rw [← h.distance ha hh, BitVec.ofNat_toNat, BitVec.setWidth_eq, sub_sub_cancel]
    rw [arqReload_seq, arqReload_rack, hback, sub_self]
    rfl
  bound _ _ := Nat.zero_le _
  credit _ _ _ := rfl
  quiet _ _ _ := rfl

/-- With nothing outstanding the counters may start again (R326). -/
theorem enterActive (hq : s.alive = true → s.halted = false → s.sentQ = []) : WindowInv (enterActive s) where
  distance ha hh := by rw [enterActive_seq, enterActive_rack, enterActive_sentQ, hq ha hh]; rfl
  bound ha hh := by rw [enterActive_sentQ, hq ha hh]; exact Nat.zero_le _
  credit ha hh _ := by rw [enterActive_sentQ, hq ha hh]; rfl
  quiet ha hh _ := hq ha hh

theorem initWith (p : Params) (s : State) : WindowInv (s.initWith p) where
  distance _ _ := by rw [State.initWith_seq, State.initWith_rack]; rfl
  bound _ _ := Nat.zero_le _
  credit _ _ := nofun
  quiet _ _ _ := rfl

/-! ### Reception -/

/-- What is acknowledged leaves the queue and gives its credit back (R279). -/
theorem acknowledge (h : WindowInv s) {k : Nat} {a : Count3} (hk : k ≤ s.sentQ.length)
    (hd : s.alive = true → s.halted = false → (s.seq - a).toNat = s.sentQ.length - k) :
    WindowInv (acknowledge k a s) where
  distance ha hh := by simpa using hd ha hh
  bound ha hh := by
    have := h.bound ha hh
    simp only [acknowledge_sentQ, List.length_drop, acknowledge_window]
    omega
  credit ha hh hact := by
    have := h.credit ha hh hact
    simp only [acknowledge_credit, acknowledge_sentQ, List.length_drop, acknowledge_window]
    omega
  quiet ha hh hact := by rw [acknowledge_sentQ, h.quiet ha hh hact, List.drop_nil]

theorem rxAck (h : WindowInv s) (a : Count3) : WindowInv (rxAck a s) := by
  unfold Machine.rxAck
  split_ifs with ha hd
  · refine { h.acknowledge (a := a) le_rfl fun _ _ => ?_ with }
    rw [ha, sub_self, Nat.sub_self]
    rfl
  · refine h.acknowledge hd fun hal hh => ?_
    have hdist := h.distance hal hh
    rw [State.ackDistance, ← hdist] at hd ⊢
    exact sub_toNat_of_acknowledged hd
  · exact h

theorem rxWoken (h : WindowInv s) : WindowInv (rxWoken s) := by
  have hcleared : WindowInv
      { s with peerState := .active, wakeTimer := .idle, wakeupPending := false, guardWait := false } := { h with }
  unfold Machine.rxWoken
  split
  · dsimp only
    split
    · exact hcleared.arqReload.scheduleWorker
    · exact hcleared.scheduleWorker
  · exact h

theorem rxWakeup (h : WindowInv s) : WindowInv (rxWakeup s) := by
  unfold Machine.rxWakeup
  split
  next hl => exact (h.linkSend .woken none).moveTo (by simp [State.linkActive, hl])
  next => exact h.rxWoken
  all_goals exact h

theorem rxSleep (h : WindowInv s) : WindowInv (rxSleep s) := by
  unfold Machine.rxSleep
  split
  · dsimp only
    split <;> exact { h with }
  · exact h

theorem rxSync (h : WindowInv s) : WindowInv (rxSync s) := by
  unfold Machine.rxSync
  split
  · exact h.linkSend .syncResp none
  · exact h.linkSend .syncResp none
  · exact h
  all_goals exact h.raiseFault _

theorem rxSyncResp (h : WindowInv s) : WindowInv (rxSyncResp s) := by
  unfold Machine.rxSyncResp
  split
  next hl =>
    have hmoved : WindowInv { s with localState := .initialized } := h.moveTo (by simp [State.linkActive, hl])
    exact { hmoved.linkSend .conf (some (cfgLocal s.params)) with }
  all_goals exact h

/-- Before the link is up nothing is outstanding, so the handshake may enter Active (R324, R326). -/
theorem rxConf (h : WindowInv s) (cfg : Option Byte) : WindowInv (rxConf cfg s) := by
  have hsent : WindowInv (sendConfResp cfg s) := h.linkSend .confResp _
  unfold Machine.rxConf
  split
  · exact h
  · exact { hsent with }
  next hl => exact enterActive fun ha hh => h.quiet ha hh (by simp [State.linkActive, hl])
  all_goals exact hsent

theorem rxConfResp (h : WindowInv s) (cfg : Option Byte) : WindowInv (rxConfResp cfg s) := by
  unfold Machine.rxConfResp
  split
  next hl =>
    have hcaptured : WindowInv { s with rtxTimer := .idle, cfgPeer := cfg } := { h with }
    dsimp only
    split
    · exact enterActive fun ha hh => h.quiet ha hh (by simp [State.linkActive, hl])
    · exact hcaptured.moveTo (by simp [State.linkActive, hl])
  all_goals exact h

theorem linkDispatch (h : WindowInv s) (m : LcMsg) : WindowInv (linkDispatch m s) := by
  cases m with
  | sync => exact h.rxSync
  | syncResp => exact h.rxSyncResp
  | conf cfg => exact h.rxConf cfg
  | confResp cfg => exact h.rxConfResp cfg
  | wakeup => exact h.rxWakeup
  | woken => exact h.rxWoken
  | sleep => exact h.rxSleep
  | unknown => exact h

theorem recvFrameFrom (h : WindowInv s) (k : NodeKind) (u : QUnit) : WindowInv (recvFrameFrom k u s) := by
  unfold Machine.recvFrameFrom
  split
  · exact h.emitUp u
  · exact h

theorem deliver (h : WindowInv s) (hd : Header) (p : Bytes) (arqOn : Bool) : WindowInv (deliver hd p arqOn s) := by
  unfold Machine.deliver
  split
  · exact h.linkDispatch _
  · split
    · split
      · exact h.recvFrameFrom .bcsp _
      · exact h
    · exact h

theorem rxGood (h : WindowInv s) (hd : Header) (p : Bytes) : WindowInv (rxGood hd p s) := by
  unfold Machine.rxGood
  split_ifs
  · exact (h.acceptSeq.rxAck _).deliver _ _ _
  · exact h.raiseFault _
  · exact (h.rxAck _).deliver _ _ _
  · exact h.deliver _ _ _

theorem rxFrame (h : WindowInv s) (f : Bytes) : WindowInv (rxFrame f s) := by
  unfold Machine.rxFrame
  split
  case h_1 => exact h
  case h_6 hd p _ => exact h.rxGood hd p
  all_goals exact h.raiseFault _

theorem rxBytes (h : WindowInv s) (bs : Bytes) : WindowInv (rxBytes bs s) :=
  rxLoop_keeps (fun _ _ hs _ => { hs with }) (fun _ _ hs _ => { hs with }) (fun f _ hs => hs.rxFrame f) _ bs h

theorem h4Bytes (h : WindowInv s) (bs : Bytes) : WindowInv (h4Bytes bs s) :=
  h4Bytes_keeps (fun _ _ hs => { hs with }) (fun _ _ _ _ hs _ => hs.recvFrameFrom .h4Adapter _) bs h

/-! ### Timers -/

theorem linkTimeout (h : WindowInv s) : WindowInv (linkTimeout s) := by
  unfold Machine.linkTimeout
  split
  · exact { h.linkSend .sync none with }
  · exact { h.linkSend .conf (some (cfgLocal s.params)) with }
  all_goals exact h

theorem arqTimeout (h : WindowInv s) : WindowInv (arqTimeout s) := by
  have hcounted : WindowInv { s with retryCount := s.retryCount + 1 } := { h with }
  unfold Machine.arqTimeout
  split_ifs
  · exact h
  · exact h.raiseFault _
  · exact hcounted.arqReload

theorem rtxWork (h : WindowInv s) : WindowInv (rtxWork s) := by
  have hcleared : WindowInv { s with rtxWork := false } := { h with }
  unfold Machine.rtxWork
  dsimp only
  split
  · exact hcleared.linkTimeout
  · exact hcleared.linkTimeout
  · exact hcleared
  all_goals exact hcleared.arqTimeout

theorem rtxFire (h : WindowInv s) : WindowInv (rtxFire s) := { h with }

theorem wakeFire (h : WindowInv s) : WindowInv (wakeFire s) := { h with }

/-! ### Transmission -/

/-- What was sent without a number of its own leaves the counters in step. -/
theorem sent (h : WindowInv s) (k : Sent s t) (hseq : t.seq = s.seq) (hhalt : t.halted = false → s.halted = false) :
    WindowInv t := by
  have hact : t.linkActive = s.linkActive := by simp only [State.linkActive, k.localState]
  constructor <;> intro ha hh <;> rw [k.alive] at ha
  case distance => rw [hseq, k.rack, k.sentQ]; exact h.distance ha (hhalt hh)
  case bound => rw [k.sentQ, k.window]; exact h.bound ha (hhalt hh)
  case credit => rw [hact, k.credit, k.sentQ, k.window]; exact h.credit ha (hhalt hh)
  case quiet => rw [hact, k.sentQ]; exact h.quiet ha (hhalt hh)

theorem txFrame_unreliable {u : QUnit} (h : WindowInv s) (ht : (txFrame u false s).ends = some t) : WindowInv t := by
  have k := txFrame_sent ht
  cases e : txFrame u false s with
  | go v =>
    obtain ⟨hseq, hhalt, -, -⟩ := txFrame_go e
    rw [e] at ht
    cases ht
    exact h.sent k hseq fun hh => hhalt ▸ hh
  | abandoned v =>
    obtain ⟨-, rfl⟩ := txFrame_abandoned e
    rw [e] at ht
    cases ht
    exact h.dropAllocDraw.raiseFault .alloc
  | stop v =>
    rw [e] at ht
    cases ht
    exact of_halted (txFrame_stop e).2
  | stall => rw [e] at ht; cases ht

theorem writeSink {bs : Bytes} (h : WindowInv s) (ht : (writeSink bs s).ends = some t) : WindowInv t := by
  rcases writeSink_cases bs s with ⟨ds, e, -⟩ | ⟨n, ds, -, e, -⟩ | ⟨e, -⟩ <;> rw [e] at ht <;> cases ht
  · exact { h with }
  · exact of_halted (Bool.or_true _)

theorem sendWakeup (h : WindowInv s) (ht : (sendWakeup s).ends = some t) : WindowInv t := by
  rcases sendWakeup_cases s with ⟨u, e, e'⟩ | ⟨u, e, e'⟩ | ⟨u, e, e'⟩ | ⟨-, e'⟩ <;> rw [e'] at ht <;> cases ht
  · exact { h.txFrame_unreliable (u := wakeupUnit) (t := u) (by rw [e]; rfl) with }
  all_goals exact h.txFrame_unreliable (u := wakeupUnit) (by rw [e]; rfl)

theorem wakeWork (h : WindowInv s) (ht : (wakeWork s).ends = some t) : WindowInv t := by
  have hcleared : WindowInv { s with wakeWork := false } := { h with }
  unfold Machine.wakeWork at ht
  split at ht
  · exact hcleared.sendWakeup ht
  · cases ht; exact hcleared

theorem txUnreliable (h : WindowInv s) (ht : (txUnreliable s).ends = some t) : WindowInv t := by
  rcases txUnreliable_cases s with ⟨-, e⟩ | ⟨u, q, -, -, hcases⟩
  · rw [e] at ht; cases ht; exact h
  have htaken : WindowInv { s with unrelQ := q } := { h with }
  rcases hcases with ⟨v, e', e⟩ | ⟨v, e', e⟩ | ⟨v, e', e⟩ | ⟨-, e⟩ <;> rw [e] at ht <;> cases ht
  · exact htaken.txFrame_unreliable (by rw [e']; rfl)
  · exact { htaken.txFrame_unreliable (t := v) (by rw [e']; rfl) with }
  · exact htaken.txFrame_unreliable (by rw [e']; rfl)

/-- A numbered unit enters `sent_q` and takes one credit: with credit left the distance is below the window, and so
below 7 (R36, R272). -/
theorem numberedUnit (h : WindowInv s) {u : QUnit} {v : State} {q : List QUnit} (hw : s.alive = true → s.window ≤ 7)
    (hr : s.relReady = true) (k : Sent { s with relQ := q } v) (hseq : v.seq = s.seq + 1) (hhalt : v.halted = s.halted) :
    WindowInv { v with sentQ := v.sentQ ++ [u], credit := v.credit - 1, rtxTimer := .armed } := by
  simp only [State.relReady, Bool.and_eq_true, decide_eq_true_eq] at hr
  obtain ⟨⟨hact, -⟩, hcredit⟩ := hr
  have hactv : v.linkActive = true := by rw [← hact]; simp only [State.linkActive, k.localState]
  have hsum : v.alive = true → v.halted = false → s.credit + s.sentQ.length = s.window :=
    fun ha hh => h.credit (k.alive ▸ ha) (hhalt ▸ hh) hact
  constructor
  case distance =>
    intro ha hh
    have hdist : (s.seq - s.rack).toNat = s.sentQ.length := h.distance (k.alive ▸ ha) (hhalt ▸ hh)
    have hlt : s.sentQ.length < 7 := by have := hsum ha hh; have := hw (k.alive ▸ ha); omega
    simp only [hseq, k.rack, k.sentQ, List.length_append, List.length_singleton]
    rw [succ_sub_toNat (by omega), hdist]
  case bound =>
    intro ha hh
    have := hsum ha hh
    simp only [k.window, k.sentQ, List.length_append, List.length_singleton]
    omega
  case credit =>
    intro ha hh _
    have := hsum ha hh
    simp only [k.window, k.sentQ, k.credit, List.length_append, List.length_singleton]
    omega
  case quiet =>
    intro _ _ hn
    exact absurd (hactv.symm.trans hn) (by simp)

theorem txReliable {sent : Bool} (h : WindowInv s) (hw : s.alive = true → s.window ≤ 7)
    (ht : (txReliable s sent).ends = some t) : WindowInv t := by
  rcases txReliable_cases s sent with ⟨-, e⟩ | ⟨u, q, -, hg, hcases⟩
  · rw [e] at ht; cases ht; exact h
  rw [Bool.and_eq_true] at hg
  rcases hcases with ⟨v, e', e⟩ | ⟨v, e', e⟩ | ⟨v, e', e⟩ | ⟨-, e⟩ <;> rw [e] at ht <;> cases ht
  · obtain ⟨hseq, hhalt, -, -⟩ := txFrame_go e'
    exact h.numberedUnit hw hg.1 (txFrame_sent (by rw [e']; rfl)) hseq hhalt
  · obtain ⟨-, rfl⟩ := txFrame_abandoned e'
    exact { h.dropAllocDraw.raiseFault .alloc with }
  · exact of_halted (txFrame_stop e').2

theorem txOwedAck {sent : Bool} (h : WindowInv s) (ht : (txOwedAck s sent).ends = some t) : WindowInv t := by
  rcases txOwedAck_cases s sent with ⟨-, e⟩ | ⟨-, ⟨v, e', e⟩ | ⟨v, e', e⟩ | ⟨v, e', e⟩ | ⟨-, e⟩⟩ <;>
    rw [e] at ht <;> cases ht
  · exact h
  all_goals exact h.txFrame_unreliable (u := ackUnit) (by rw [e']; rfl)

theorem txStep (h : WindowInv s) (hs : StorageInv s) (ht : (txStep s).ends = some t) : WindowInv t := by
  rcases txStep_cases s with
    ⟨-, e⟩ | ⟨-, ⟨v, e1, e⟩ | ⟨-, e⟩ | ⟨v, b, e1, ⟨w, e2, e⟩ | ⟨-, e⟩ | ⟨w, b', e2, e⟩⟩⟩ <;> rw [e] at ht
  · cases ht; exact { h with }
  · cases ht; exact h.txUnreliable (by rw [e1]; rfl)
  · cases ht
  · cases ht
    have hv : (Machine.txUnreliable s).ends = some v := by rw [e1]; rfl
    exact (h.txUnreliable hv).txReliable (fun ha => ((hs.txUnreliable hv).window ha).2) (by rw [e2]; rfl)
  · cases ht
  · have hv : (Machine.txUnreliable s).ends = some v := by rw [e1]; rfl
    exact ((h.txUnreliable hv).txReliable (t := w) (fun ha => ((hs.txUnreliable hv).window ha).2)
      (by rw [e2]; rfl)).txOwedAck ht

theorem runLoop {n : Nat} (h : WindowInv s) (hs : StorageInv s) (ht : (runLoop n s).ends = some t) : WindowInv t :=
  (runLoop_keeps (P := fun s => StorageInv s ∧ WindowInv s)
    (fun _ _ hst hend => ⟨hst.1.txStep hend, hst.2.txStep hst.1 hend⟩) ⟨hs, h⟩ ht).2

/-! ### Every effect -/

theorem effect {i : Instr} (hs : StorageInv s) (hb : i.countersBelong s) (h : WindowInv s) (e : Effect i s t) :
    WindowInv t := by
  cases e with
  | nothing => exact h
  | scanned c => exact h.afterScan c
  | resynced c => exact (h.raiseFault .alloc).afterScan c
  | numbered payload type reliable ack useCrc hi =>
    subst hi
    obtain rfl : reliable = false := hb
    exact { h with }
  | queued u => exact (h.dropAllocDraw.enqueue u).scheduleWorker
  | dropped => exact h.dropAllocDraw.raiseFault .alloc
  | worked _ ht => exact h.txStep hs ht
  | ran n _ ht => exact h.runLoop hs ht
  | framed u r _ hi ht =>
    cases r with
    | false => exact h.txFrame_unreliable ht
    | true => obtain rfl := hi rfl; cases hb
  | woke _ ht => exact h.sendWakeup ht
  | wakeWorked _ ht => exact h.wakeWork ht
  | wakeTimedOut _ ht => exact h.wakeFire.wakeWork ht
  | wrote bs _ ht => exact h.writeSink ht
  | received f => exact h.rxFrame f
  | receivedRun bs => exact h.rxBytes bs
  | receivedH4 bs => exact h.h4Bytes bs
  | accepted => exact h.acceptSeq
  | acknowledged a => exact h.rxAck a
  | delivered hd p arqOn => exact h.deliver hd p arqOn
  | reported r => exact h.raiseFault r
  | rtxFired => exact h.rtxFire
  | rtxWorked => exact h.rtxWork
  | rtxTimedOut => exact h.rtxFire.rtxWork
  | arqTimedOut => exact h.arqTimeout
  | reloaded => exact h.arqReload
  | dispatched m => exact h.linkDispatch m
  | linkTimedOut => exact h.linkTimeout
  | entered hi => subst hi; exact enterActive fun _ _ => hb
  | configured w f c v hi => subst hi; exact enterActive fun _ _ => hb
  | sent m cfg => exact h.linkSend m cfg
  | slept hl => exact (h.linkSend .sleep none).moveTo (by simp [State.linkActive, hl])
  | wakeFired => exact h.wakeFire
  | guardElapsed => exact { h with }
  | emitted u => exact h.emitUp u
  | initialised p => exact initWith p s
  | tornDown => exact of_not_alive rfl

end WindowInv

/-- Where a helper belongs is read from `sent_q` alone. -/
theorem countersBelong_popEvent (i : Instr) (s : State) : i.countersBelong s.popEvent = i.countersBelong s := by
  cases i <;> rfl

/-- Settles O59: the event is taken, the fetched instruction has one of its effects, the answer is left. -/
theorem everyStepKeepsTheSlidingWindow : Obligations.EveryStepKeepsTheSlidingWindow := by
  intro s t hs h hb hst
  rcases step_cases hst with ⟨-, rfl⟩ | ⟨-, rfl⟩ | ⟨i, u, a, hi, -, he, rfl⟩
  · exact h
  · exact h.popEvent.answering _
  · exact (h.popEvent.effect hs.popEvent (countersBelong_popEvent i s ▸ hb i hi) he).answering a

/-! ### Reset -/

/-- Settles O56: each register evaluated on the literal reset state. -/
theorem resetIsTheTableOfReset : Obligations.ResetIsTheTableOfReset := by
  refine ⟨rfl, rfl, ?_⟩
  rintro p s rfl
  repeat' constructor

/-- The reset state is what SYS.INIT leaves, with nothing on the traces (R491). -/
theorem reset_eq_initWith : State.reset = State.reset.initWith Config.params := rfl

/-- What a run from reset starts with keeps the form of storage: every queue and trace is empty. -/
theorem storageInv_reset : StorageInv State.reset where
  params := rfl
  collector := trivial
  unrelQ := nofun
  relQ := nofun
  sentQ := nofun
  relTags := nofun
  sentTags := nofun
  upRx := nofun
  window _ := w0_bounds (p := Config.params) rfl
  peer _ := ⟨nofun, nofun⟩

/-- Settles O57: the storage is empty, and the registers are those SYS.INIT loads. -/
theorem resetHasTheInvariants : Obligations.ResetHasTheInvariants :=
  ⟨storageInv_reset, reset_eq_initWith ▸ WindowInv.initWith Config.params State.reset⟩

end Sys2Proof.Machine
end

section
/-! The output traces only grow and the environment's answers are only read (10_state.md R49, 60_exceptions.md R440). -/

namespace Sys2Proof.Machine

/-- What every effect but SYS.INIT's does to the traces, the environment's answers, the coming events and the
parameters. -/
structure Grows (s t : State) : Prop where
  params : t.params = s.params
  events : t.events = s.events
  phyTx : s.phyTx <+: t.phyTx
  upRx : s.upRx <+: t.upRx
  faults : s.faults <+: t.faults
  allocDraws : t.allocDraws <:+ s.allocDraws
  sinkDraws : t.sinkDraws <:+ s.sinkDraws

namespace Grows

variable {s t u : State}

theorem refl (s : State) : Grows s s :=
  ⟨rfl, rfl, List.prefix_rfl, List.prefix_rfl, List.prefix_rfl, List.suffix_rfl, List.suffix_rfl⟩

theorem trans (h : Grows s t) (k : Grows t u) : Grows s u where
  params := k.params.trans h.params
  events := k.events.trans h.events
  phyTx := h.phyTx.trans k.phyTx
  upRx := h.upRx.trans k.upRx
  faults := h.faults.trans k.faults
  allocDraws := k.allocDraws.trans h.allocDraws
  sinkDraws := k.sinkDraws.trans h.sinkDraws

theorem of_received (k : Received s t) : Grows s t where
  params := k.params
  events := k.events
  phyTx := k.phyTx ▸ List.prefix_rfl
  upRx := k.upRx
  faults := k.faults
  allocDraws := k.allocDraws ▸ List.suffix_rfl
  sinkDraws := k.sinkDraws ▸ List.suffix_rfl

theorem of_transmitted (k : Transmitted s t) : Grows s t where
  params := k.params
  events := k.events
  phyTx := k.phyTx
  upRx := k.upRx ▸ List.prefix_rfl
  faults := k.faults
  allocDraws := k.allocDraws
  sinkDraws := k.sinkDraws

theorem scan (s : State) {c : Collected} (hd : c.draws <:+ s.allocDraws) : Grows s (s.afterScan c) :=
  { refl s with allocDraws := hd, faults := List.prefix_append _ _ }

theorem rxBytes (bs : Bytes) (s : State) : Grows s (rxBytes bs s) := by
  obtain ⟨k, hd⟩ := rxLoop_received bs.length bs s
  exact { of_received k with allocDraws := hd }

theorem h4Bytes (bs : Bytes) (s : State) : Grows s (h4Bytes bs s) :=
  h4Bytes_keeps (P := Grows s) (fun _ _ h => { h with })
    (fun t _ _ _ h _ => h.trans (of_received (recvFrameFrom_received _ _ t))) bs (refl s)

theorem rtxWork (s : State) : Grows s (rtxWork s) := by
  have hcleared : Grows s { s with rtxWork := false } := { refl s with }
  unfold Machine.rtxWork
  dsimp only
  split
  · exact hcleared.trans (of_received (linkTimeout_received _))
  · exact hcleared.trans (of_received (linkTimeout_received _))
  · exact hcleared
  all_goals exact hcleared.trans (of_received (arqTimeout_received _))

theorem enqueue (s : State) (u : QUnit) : Grows s (s.enqueue u) := by
  unfold State.enqueue
  split <;> exact { refl s with }

theorem dropAllocDraw (s : State) : Grows s s.dropAllocDraw :=
  { refl s with allocDraws := List.tail_suffix _ }

/-- The parts of a step that do not count: its event is taken before it, its answer is left after it. -/
theorem answering (h : Grows s t) (a : Answer) : Grows s (t.answering a) := { h with }

end Grows

/-- Every effect but SYS.INIT's only adds to the traces and only reads the environment. -/
theorem Effect.grows {i : Instr} {s t : State} (e : Effect i s t) :
    Grows s t ∨ ∃ p, i = .sysInit p ∧ t = s.initWith p := by
  cases e with
  | initialised p hi => exact .inr ⟨p, hi, rfl⟩
  | nothing => exact .inl (.refl s)
  | scanned c hd => exact .inl (.scan s hd)
  | resynced c hd => exact .inl ((Grows.of_received (raiseFault_received .alloc s)).trans (.scan _ hd))
  | queued u => exact .inl (((Grows.dropAllocDraw s).trans (.enqueue _ u)).trans { Grows.refl _ with })
  | dropped => exact .inl ((Grows.dropAllocDraw s).trans (.of_received (raiseFault_received .alloc _)))
  | worked _ ht => exact .inl (.of_transmitted (txStep_transmitted ht))
  | ran n _ ht => exact .inl (.of_transmitted (runLoop_transmitted ht))
  | framed u r _ _ ht => exact .inl (.of_transmitted (txFrame_sent ht).transmitted)
  | woke _ ht => exact .inl (.of_transmitted (sendWakeup_transmitted ht))
  | wakeWorked _ ht => exact .inl (.of_transmitted (wakeWork_transmitted ht))
  | wakeTimedOut _ ht => exact .inl { Grows.of_transmitted (wakeWork_transmitted ht) with }
  | wrote bs _ ht => exact .inl (.of_transmitted (writeSink_sent ht).transmitted)
  | received f => exact .inl (.of_received (rxFrame_received f s))
  | receivedRun bs => exact .inl (.rxBytes bs s)
  | receivedH4 bs => exact .inl (.h4Bytes bs s)
  | acknowledged a => exact .inl (.of_received (rxAck_received a s))
  | delivered h p arqOn => exact .inl (.of_received (deliver_received h p arqOn s))
  | reported r => exact .inl (.of_received (raiseFault_received r s))
  | rtxWorked => exact .inl (.rtxWork s)
  | rtxTimedOut => exact .inl { Grows.rtxWork (rtxFire s) with }
  | arqTimedOut => exact .inl (.of_received (arqTimeout_received s))
  | dispatched m => exact .inl (.of_received (linkDispatch_received m s))
  | linkTimedOut => exact .inl (.of_received (linkTimeout_received s))
  | emitted u => exact .inl (.of_received (emitUp_received s u))
  | numbered | accepted | rtxFired | reloaded | entered | configured | sent | slept | wakeFired | guardElapsed
  | tornDown => exact .inl { Grows.refl s with }

/-- Only an empty list of events leaves the block idle: a port transaction the chain has no node for is refused. -/
theorem events_of_fetch_idle {s : State} (h : fetch s = .idle) : s.events = [] := by
  unfold fetch fetchUpTx fetchPhyRx at h
  split at h
  next he => exact he
  next => cases h
  next => split at h <;> cases h
  next => split at h <;> cases h
  next => cases h

/-- Settles O60: an idle step changes nothing, and every effect grows the traces after the event is taken. -/
theorem tracesGrowAndTheEnvironmentIsOnlyRead : Obligations.TracesGrowAndTheEnvironmentIsOnlyRead := by
  intro s t hst
  have hgrows : ∀ u, Grows s.popEvent u → s.phyTx <+: u.phyTx ∧ s.upRx <+: u.upRx ∧ s.faults <+: u.faults ∧
      u.events = s.events.tail ∧ u.allocDraws <:+ s.allocDraws ∧ u.sinkDraws <:+ s.sinkDraws ∧
      (u.params = s.params ∨ ∃ p, fetch s = .instr (.sysInit p) ∧ u.params = p) :=
    fun u g => ⟨g.phyTx, g.upRx, g.faults, g.events, g.allocDraws, g.sinkDraws, .inl g.params⟩
  rcases step_cases hst with ⟨hidle, rfl⟩ | ⟨-, rfl⟩ | ⟨i, u, a, hi, -, he, rfl⟩
  · exact hgrows t { Grows.refl t with events := by rw [State.popEvent, events_of_fetch_idle hidle]; rfl }
  · exact hgrows _ ((Grows.refl _).answering _)
  · rcases he.grows with g | ⟨p, rfl, rfl⟩
    · exact hgrows _ (g.answering a)
    · exact ⟨List.prefix_rfl, List.prefix_rfl, List.prefix_rfl, rfl, List.suffix_rfl, List.suffix_rfl,
        .inr ⟨p, hi, rfl⟩⟩

end Sys2Proof.Machine
end

section
/-! The sequencing registers move forward and the configuration is committed on entering Active (10_state.md R37, R41,
44_link_fsm.md R329). -/

namespace Sys2Proof.Machine

/-- What every effect but SYS.INIT's, SYS.TEARDOWN's, PWR.SLEEP_REQ's and a bare LINK.ENTER_ACTIVE's does to the
sequencing registers and the committed configuration; that it does not fall asleep makes it compose. -/
structure Sequenced (s t : State) : Prop where
  forward : rank s.localState ≤ rank t.localState
  awake : s.localState = .active → t.localState = .active
  peer : t.peerState = s.peerState ∨ t.peerState = .active ∨ t.peerState = .lowPower
  config : (t.window = s.window ∧ t.useCrc = s.useCrc ∧ t.swFlow = s.swFlow) ∨
    (¬ s.established ∧ t.localState = .active)

theorem rank_le_three (l : LinkState) : rank l ≤ 3 := by
  cases l <;> decide

/-- The established states are those of the highest rank. -/
theorem established_iff_rank (s : State) : s.established ↔ rank s.localState = 3 := by
  cases h : s.localState <;> simp [State.established, h, rank]

namespace Sequenced

variable {s t u : State}

theorem of_same (hl : t.localState = s.localState) (hp : t.peerState = s.peerState) (hw : t.window = s.window)
    (hc : t.useCrc = s.useCrc) (hf : t.swFlow = s.swFlow) : Sequenced s t :=
  ⟨hl ▸ le_rfl, fun h => hl.trans h, .inl hp, .inl ⟨hw, hc, hf⟩⟩

theorem refl (s : State) : Sequenced s s := of_same rfl rfl rfl rfl rfl

/-- The second of two effects may commit only where the first did not: the link it found was not established. -/
theorem trans (h : Sequenced s t) (k : Sequenced t u) : Sequenced s u where
  forward := h.forward.trans k.forward
  awake hs := k.awake (h.awake hs)
  peer := by
    rcases k.peer with e | e
    · rw [e]; exact h.peer
    · exact .inr e
  config := by
    rcases h.config with ⟨hw, hc, hf⟩ | ⟨hn, ht⟩
    · rcases k.config with ⟨kw, kc, kf⟩ | ⟨kn, kt⟩
      · exact .inl ⟨kw.trans hw, kc.trans hc, kf.trans hf⟩
      · refine .inr ⟨fun hs => kn ?_, kt⟩
        rw [established_iff_rank] at hs ⊢
        exact le_antisymm (rank_le_three _) (hs ▸ h.forward)
    · exact .inr ⟨hn, k.awake ht⟩

theorem of_transmitted (k : Transmitted s t) : Sequenced s t :=
  of_same k.localState k.peerState k.window k.useCrc k.swFlow

/-- Entering Active from a link that is not established (R326). -/
theorem enterActive (hn : ¬ s.established)
    (hp : s.peerState = t.peerState ∨ s.peerState = .active) (hl : s.localState = t.localState) :
    Sequenced t (enterActive s) where
  forward := rank_le_three _
  awake _ := rfl
  peer := hp.imp id .inl
  config := .inr ⟨fun h => hn (by rwa [State.established, hl]), rfl⟩

theorem rxWoken (s : State) : Sequenced s (rxWoken s) := by
  unfold Machine.rxWoken
  split
  · dsimp only
    split <;> exact { refl s with peer := .inr (.inl rfl) }
  · exact refl s

theorem rxWakeup (s : State) : Sequenced s (rxWakeup s) := by
  unfold Machine.rxWakeup
  split
  next hl => exact ⟨rank_le_three _ |>.trans_eq rfl, fun _ => rfl, .inl rfl, .inl ⟨rfl, rfl, rfl⟩⟩
  next => exact rxWoken s
  all_goals exact refl s

theorem rxSleep (s : State) : Sequenced s (rxSleep s) := by
  unfold Machine.rxSleep
  split
  · dsimp only
    split <;> exact { refl s with peer := .inr (.inr rfl) }
  · exact refl s

theorem rxSync (s : State) : Sequenced s (rxSync s) := by
  unfold Machine.rxSync
  split <;> exact of_same rfl rfl rfl rfl rfl

theorem rxSyncResp (s : State) : Sequenced s (rxSyncResp s) := by
  unfold Machine.rxSyncResp
  split
  next hl => exact ⟨by rw [hl]; exact Nat.zero_le _, by simp [hl], .inl rfl, .inl ⟨rfl, rfl, rfl⟩⟩
  all_goals exact refl s

theorem rxConf (cfg : Option Byte) (s : State) : Sequenced s (rxConf cfg s) := by
  unfold Machine.rxConf
  split
  next => exact refl s
  next => exact ⟨le_rfl, id, .inr (.inl rfl), .inl ⟨rfl, rfl, rfl⟩⟩
  next hl => exact enterActive (by simp [State.established, sendConfResp, hl]) (.inr rfl) rfl
  all_goals exact of_same rfl rfl rfl rfl rfl

theorem rxConfResp (cfg : Option Byte) (s : State) : Sequenced s (rxConfResp cfg s) := by
  unfold Machine.rxConfResp
  split
  next hl =>
    dsimp only
    split
    · exact enterActive (by simp [State.established, hl]) (.inl rfl) rfl
    · exact ⟨by rw [hl]; exact Nat.le_succ 1, by simp [hl], .inl rfl, .inl ⟨rfl, rfl, rfl⟩⟩
  all_goals exact refl s

theorem linkDispatch (m : LcMsg) (s : State) : Sequenced s (linkDispatch m s) := by
  cases m with
  | sync => exact rxSync s
  | syncResp => exact rxSyncResp s
  | conf cfg => exact rxConf cfg s
  | confResp cfg => exact rxConfResp cfg s
  | wakeup => exact rxWakeup s
  | woken => exact rxWoken s
  | sleep => exact rxSleep s
  | unknown => exact refl s

theorem rxAck (a : Count3) (s : State) : Sequenced s (rxAck a s) := by
  unfold Machine.rxAck
  split_ifs <;> exact of_same rfl rfl rfl rfl rfl

theorem recvFrameFrom (k : NodeKind) (u : QUnit) (s : State) : Sequenced s (recvFrameFrom k u s) := by
  unfold Machine.recvFrameFrom
  split <;> exact of_same rfl rfl rfl rfl rfl

theorem deliver (h : Header) (p : Bytes) (arqOn : Bool) (s : State) : Sequenced s (deliver h p arqOn s) := by
  unfold Machine.deliver
  split
  · exact linkDispatch _ s
  · split
    · split
      · exact recvFrameFrom _ _ s
      · exact refl s
    · exact refl s

theorem raiseFault (r : Report) (s : State) : Sequenced s (raiseFault r s) := of_same rfl rfl rfl rfl rfl

theorem rxGood (h : Header) (p : Bytes) (s : State) : Sequenced s (rxGood h p s) := by
  have haccept : Sequenced s (acceptSeq s) := of_same rfl rfl rfl rfl rfl
  unfold Machine.rxGood
  split_ifs
  · exact (haccept.trans (rxAck _ _)).trans (deliver _ _ _ _)
  · exact raiseFault _ s
  · exact (rxAck _ s).trans (deliver _ _ _ _)
  · exact deliver _ _ _ s

theorem rxFrame (f : Bytes) (s : State) : Sequenced s (rxFrame f s) := by
  unfold Machine.rxFrame
  split
  case h_1 => exact refl s
  case h_6 h p _ => exact rxGood h p s
  all_goals exact raiseFault _ s

theorem rxBytes (bs : Bytes) (s : State) : Sequenced s (rxBytes bs s) :=
  rxLoop_keeps (P := Sequenced s) (fun _ _ h _ => { h with }) (fun _ _ h _ => { h with })
    (fun f _ h => h.trans (rxFrame f _)) _ bs (refl s)

theorem h4Bytes (bs : Bytes) (s : State) : Sequenced s (h4Bytes bs s) :=
  h4Bytes_keeps (P := Sequenced s) (fun _ _ h => { h with }) (fun _ _ _ _ h _ => h.trans (recvFrameFrom _ _ _)) bs
    (refl s)

theorem linkTimeout (s : State) : Sequenced s (linkTimeout s) := by
  unfold Machine.linkTimeout
  split <;> exact of_same rfl rfl rfl rfl rfl

theorem arqTimeout (s : State) : Sequenced s (arqTimeout s) := by
  unfold Machine.arqTimeout
  split_ifs <;> exact of_same rfl rfl rfl rfl rfl

theorem rtxWork (s : State) : Sequenced s (rtxWork s) := by
  unfold Machine.rtxWork
  dsimp only
  split
  · exact { linkTimeout { s with rtxWork := false } with }
  · exact { linkTimeout { s with rtxWork := false } with }
  · exact of_same rfl rfl rfl rfl rfl
  all_goals exact { arqTimeout { s with rtxWork := false } with }

theorem enqueue (s : State) (u : QUnit) : Sequenced s (s.enqueue u) := by
  unfold State.enqueue
  split <;> exact of_same rfl rfl rfl rfl rfl

end Sequenced

/-- Every effect of an instruction that is no supervision moves the sequencing forward; beside those that compose there
are the bare commit and the request to sleep. -/
theorem Effect.sequenced {i : Instr} {s t : State} (hi : i.supervision = false) (e : Effect i s t) :
    Sequenced s t ∨ ((i = .linkEnterActive ∨ ∃ w f c v, i = .cfg w f c v) ∧ t.localState = .active ∧
      t.peerState = s.peerState) ∨ (s.localState = .active ∧ t = sleepReq s) := by
  cases e with
  | entered h => exact .inr (.inl ⟨.inl h, rfl, rfl⟩)
  | configured w f c v h => exact .inr (.inl ⟨.inr ⟨w, f, c, v, h⟩, rfl, rfl⟩)
  | slept h => exact .inr (.inr ⟨h, rfl⟩)
  | initialised p h => subst h; cases hi
  | tornDown h => subst h; cases hi
  | queued u => exact .inl { Sequenced.enqueue s.dropAllocDraw u with }
  | worked _ ht => exact .inl (.of_transmitted (txStep_transmitted ht))
  | ran n _ ht => exact .inl (.of_transmitted (runLoop_transmitted ht))
  | framed u r _ _ ht => exact .inl (.of_transmitted (txFrame_sent ht).transmitted)
  | woke _ ht => exact .inl (.of_transmitted (sendWakeup_transmitted ht))
  | wakeWorked _ ht => exact .inl (.of_transmitted (wakeWork_transmitted ht))
  | wakeTimedOut _ ht => exact .inl { Sequenced.of_transmitted (wakeWork_transmitted ht) with }
  | wrote bs _ ht => exact .inl (.of_transmitted (writeSink_sent ht).transmitted)
  | received f => exact .inl (.rxFrame f s)
  | receivedRun bs => exact .inl (.rxBytes bs s)
  | receivedH4 bs => exact .inl (.h4Bytes bs s)
  | acknowledged a => exact .inl (.rxAck a s)
  | delivered h p arqOn => exact .inl (.deliver h p arqOn s)
  | rtxWorked => exact .inl (.rtxWork s)
  | rtxTimedOut => exact .inl { Sequenced.rtxWork (rtxFire s) with }
  | arqTimedOut => exact .inl (.arqTimeout s)
  | dispatched m => exact .inl (.linkDispatch m s)
  | linkTimedOut => exact .inl (.linkTimeout s)
  | nothing | scanned | resynced | numbered | dropped | accepted | reported | rtxFired | reloaded | sent | wakeFired
  | guardElapsed | emitted => exact .inl (.of_same rfl rfl rfl rfl rfl)

/-- Settles O37, effect by effect. -/
theorem sequencingMovesForwardAndCommitsOnce : Obligations.SequencingMovesForwardAndCommitsOnce := by
  intro i s t hi ht
  obtain ⟨u, a, he, rfl⟩ := exec_byEffect i s t ht
  rcases he.sequenced hi with h | ⟨hbare, hl, hp⟩ | ⟨hl, rfl⟩
  · exact ⟨h.forward, h.peer, h.config.imp id fun hc => .inr (.inr hc)⟩
  · refine ⟨?_, .inl hp, .inr (hbare.imp id .inl)⟩
    rw [State.answering_localState, hl]
    exact rank_le_three _
  · exact ⟨by rw [hl]; exact le_rfl, .inl rfl, .inl ⟨rfl, rfl, rfl⟩⟩

end Sys2Proof.Machine
end

section
/-! The fault signal, a halted block, initialisation and teardown (60_exceptions.md R446, R447, R452,
70_reset_and_hazards.md R490, R492). -/

namespace Sys2Proof.Machine

/-! ### A block that is halted or does not exist -/

/-- An operation whose condition fails takes no step: only its answer says so (R15, R447). -/
theorem turnedAway_of_not {b : Bool} {o : Host.Outcome State Fault Refusal} {s : State} (h : b = false) :
    (if b then o else turnedAway s) = .next { s with answer := .notEnabled } :=
  if_neg (Bool.eq_false_iff.mp h)

theorem live_eq_false_iff (s : State) : s.live = false ↔ s.alive = false ∨ s.halted = true := by
  cases ha : s.alive <;> cases hh : s.halted <;> simp [State.live, ha, hh]

/-- Every condition of an operation asks for a live block (R447). -/
structure NothingEnabled (s : State) : Prop where
  live : s.live = false
  bcsp : s.bcspLive = false
  h4 : s.h4Live = false
  txStep : s.txStepEnabled = false
  txWake : s.txWakeEnabled = false
  guardElapse : s.guardElapseEnabled = false
  rtxFire : s.rtxFireEnabled = false
  rtxWork : s.rtxWorkEnabled = false
  wakeFire : s.wakeFireEnabled = false
  wakeWork : s.wakeWorkEnabled = false
  sleepReq : s.sleepReqEnabled = false

theorem nothingEnabled_of_not_live {s : State} (hl : s.live = false) : NothingEnabled s := by
  have hb : s.bcspLive = false := by rw [State.bcspLive, hl, Bool.false_and]
  constructor
  case live => exact hl
  case bcsp => exact hb
  case h4 => rw [State.h4Live, hl, Bool.false_and]
  case txStep => rw [State.txStepEnabled, hb, Bool.false_and, Bool.false_and]
  case txWake => simp only [State.txWakeEnabled, hb, Bool.false_and]
  case guardElapse => rw [State.guardElapseEnabled, hb, Bool.false_and]
  case rtxFire => rw [State.rtxFireEnabled, hb, Bool.false_and]
  case rtxWork => rw [State.rtxWorkEnabled, hb, Bool.false_and]
  case wakeFire => rw [State.wakeFireEnabled, hb, Bool.false_and]
  case wakeWork => rw [State.wakeWorkEnabled, hb, Bool.false_and]
  case sleepReq => simp only [State.sleepReqEnabled, hb, Bool.false_and]

/-- Settles O53: each instruction by the condition it asks for. -/
theorem haltedBlockTurnsOperationsAway : Obligations.HaltedBlockTurnsOperationsAway := by
  intro i s hdead hi
  have off := nothingEnabled_of_not_live ((live_eq_false_iff s).mpr hdead)
  cases i with
  | sysInit | sysTeardown => cases hi
  | slipEncode | slipDecode | slipCollect | slipResync | crcUpdate | crc16 | hdrChecksum | bcspUnpack | chainNext
  | chainPrev | sizerLen | phyWrite | raiseFault => exact turnedAway_of_not off.live
  | bcspPack | txFrame => exact turnedAway_of_not (by rw [off.bcsp, Bool.false_and])
  | h4SendFrame | h4RecvBytes | h4Cmd | h4Acl | h4Evt | h4Iso | h4Unknown => exact turnedAway_of_not off.h4
  | arqRxSeq n =>
    exact (ite_eq_iff'.mpr ⟨fun _ => turnedAway_of_not off.bcsp, fun _ => turnedAway_of_not off.bcsp⟩)
  | txStep => exact turnedAway_of_not off.txStep
  | txWake => exact turnedAway_of_not off.txWake
  | guardElapse => exact turnedAway_of_not off.guardElapse
  | rtxFire | rtxTimeout => exact turnedAway_of_not off.rtxFire
  | rtxWork => exact turnedAway_of_not off.rtxWork
  | wakeFire | wakeTimeout => exact turnedAway_of_not off.wakeFire
  | wakeWork => exact turnedAway_of_not off.wakeWork
  | pwrSleepReq => exact turnedAway_of_not off.sleepReq
  | _ => exact turnedAway_of_not off.bcsp

/-! ### The fault primitive -/

theorem exec_raiseFault_of_live (r : Report) {s : State} (ha : s.alive = true) (hh : s.halted = false) :
    exec (.raiseFault r) s = .next ((raiseFault r s).answering .done) :=
  onLive_of_live ha hh

theorem fatal_of_mem {a b : Count3} {n : Nat} {r : Report}
    (hr : r ∈ ([.outOfSequence a b, .retryLimit n, .write n, .protocolSyncWhileActive] : List Report)) :
    fatal r = true := by
  simp only [List.mem_cons, List.not_mem_nil, or_false] at hr
  rcases hr with rfl | rfl | rfl | rfl <;> rfl

theorem not_fatal_of_mem {c : ChecksumCause} {r : Report} (hr : r ∈ ([.checksum c, .crc, .alloc] : List Report)) :
    fatal r = false := by
  simp only [List.mem_cons, List.not_mem_nil, or_false] at hr
  rcases hr with rfl | rfl | rfl <;> rfl

/-- Settles O52: the two outcomes of a report, by its code. -/
theorem fatalReportsHalt : Obligations.FatalReportsHalt := by
  intro s ha hh
  constructor
  case left =>
    intro a b n r hr
    rw [exec_raiseFault_of_live r ha hh, raiseFault_of_fatal (fatal_of_mem hr)]
    rfl
  case right =>
    intro c r hr
    rw [exec_raiseFault_of_live r ha hh, raiseFault_of_not_fatal (not_fatal_of_mem hr)]
    rfl

/-! ### Initialisation and teardown -/

theorem initEnabled_eq_true_iff (s : State) : s.initEnabled = true ↔ s.alive = false ∨ s.halted = true := by
  simp [State.initEnabled]

/-- Settles O54: `State.initWith` where SYS.INIT is enabled, the refusal where the block runs. -/
theorem initLoadsTheResetValues : Obligations.InitLoadsTheResetValues := by
  intro p s
  constructor
  case left =>
    intro h
    exact if_pos ((initEnabled_eq_true_iff s).mpr h)
  case right =>
    intro ha hh
    refine if_neg fun h => ?_
    rcases (initEnabled_eq_true_iff s).mp h with h | h
    · exact Bool.false_ne_true (h.symm.trans ha)
    · exact Bool.false_ne_true (hh.symm.trans h)

/-- Settles O55: `State.teardown`, field by field, and the context that does not exist. -/
theorem teardownClearsTheContext : Obligations.TeardownClearsTheContext := by
  intro s
  constructor
  case left =>
    intro ha
    refine ⟨s.teardown.answering .done, if_pos ha, ?_⟩
    repeat' constructor
  case right =>
    intro ha
    exact turnedAway_of_not ha

end Sys2Proof.Machine
end

section
/-! The step: the event at the head of the list, the instruction fetched for it, and the routing of the two data ports
by the chain (00_scope.md R14, 46_chain.md R392 to R394). -/

namespace Sys2Proof.Machine

/-! ### Running what was fetched -/

theorem popEvent_of_events {s : State} {e : Event} {rest : List Event} (h : s.events = e :: rest) :
    s.popEvent = { s with events := rest } := by
  rw [State.popEvent, h]
  rfl

theorem step_of_fetch_instr {s : State} {i : Instr} (hf : fetch s = .instr i) (hwf : i.wf = true) :
    step s = exec i s.popEvent := by
  rw [step, hf]
  exact if_pos hwf

theorem step_of_fetch_refusedCall {s : State} (hf : fetch s = .refusedCall) :
    step s = .next (s.popEvent.answering .refused) := by
  rw [step, hf]
  rfl

theorem fetch_of_op {s : State} {i : Instr} {rest : List Event} (h : s.events = .op i :: rest) :
    fetch s = .instr i := by
  rw [fetch, h]

theorem fetch_of_wire {s : State} {f : WireFormat} {bs : Bytes} {rest : List Event}
    (h : s.events = .wire f bs :: rest) : fetch s = .instr (fetchWire f bs) := by
  rw [fetch, h]

theorem fetch_of_upTx {s : State} {tag : Tag} {p : Bytes} {rest : List Event} (h : s.events = .upTx tag p :: rest) :
    fetch s = fetchUpTx s.params.chain tag p := by
  rw [fetch, h]

theorem fetch_of_phyRx {s : State} {bs : Bytes} {rest : List Event} (h : s.events = .phyRx bs :: rest) :
    fetch s = fetchPhyRx s.params.chain bs := by
  rw [fetch, h]

theorem fetchWire_of_ok {f : WireFormat} {bs : Bytes} {i : Instr} (h : decode f bs = .ok i) : fetchWire f bs = i := by
  rw [fetchWire, h]

theorem fetchWire_of_error {f : WireFormat} {bs : Bytes} {r : DecodeReject} (h : decode f bs = .error r) :
    fetchWire f bs = receiveOther f bs := by
  rw [fetchWire, h]

/-- The bytes of an encoding run the instruction they decode to, which is well formed. -/
theorem step_of_wire {s : State} {f : WireFormat} {bs : Bytes} {i : Instr} {rest : List Event}
    (he : s.events = .wire f bs :: rest) (hd : decode f bs = .ok i) : step s = exec i { s with events := rest } := by
  rw [step_of_fetch_instr (fetch_of_wire he) (fetchWire_of_ok hd ▸ (decodedInstructionEncodesToItsBytes f bs i hd).1),
    fetchWire_of_ok hd, popEvent_of_events he]

/-! ### Words of the table -/

theorem tableWire_of_decodeTableWord {nbits w : Nat} {i : Instr} (h : decodeTableWord nbits w = some i) :
    ∃ f bs, tableWire nbits w = some (f, bs) ∧ decode f bs = .ok i := by
  unfold decodeTableWord at h
  cases ht : tableWire nbits w with
  | none => rw [ht] at h; cases h
  | some fbs =>
    obtain ⟨f, bs⟩ := fbs
    cases hd : decode f bs with
    | error r => simp only [ht, hd] at h; cases h
    | ok j => simp only [ht, hd] at h; cases h; exact ⟨f, bs, rfl, hd⟩

theorem withFetchWord_of_tableWire {nbits w : Nat} {f : WireFormat} {bs : Bytes} (s : State)
    (h : tableWire nbits w = some (f, bs)) :
    s.withFetchWord nbits w = { s.chainFor f with events := .wire f bs :: s.events } := by
  rw [State.withFetchWord, h]

/-- The chain a unit is received in leaves the coming events alone. -/
theorem chainFor_events (s : State) (f : WireFormat) : (s.chainFor f).events = s.events := by
  unfold State.chainFor
  split <;> rfl

/-- Settles O4: the fetched instruction runs after its event is taken, and the event that holds a table word is the only
difference between the placed state and the one it runs in. -/
theorem stepRunsTheNextInstruction : Obligations.StepRunsTheNextInstruction := by
  constructor
  case left =>
    intro s i rest hwf
    constructor
    case left =>
      intro he
      rw [step_of_fetch_instr (fetch_of_op he) hwf, popEvent_of_events he]
    case right => exact fun f bs he hd => step_of_wire he hd
  case right =>
    intro nbits w i s h
    obtain ⟨f, bs, ht, hd⟩ := tableWire_of_decodeTableWord h
    refine ⟨f, bs, ht, hd, ?_⟩
    rw [withFetchWord_of_tableWire s ht, step_of_wire rfl hd, ← chainFor_events s f]

/-! ### The ports -/

/-- A walk passes over the nodes of the end's kind (R394). -/
theorem find?_replicate_append {a : NodeKind} (n : Nat) (l : List NodeKind) :
    (List.replicate n a ++ l).find? (· != a) = l.find? (· != a) := by
  simp [List.find?_append]

/-- The node a packet on `up_tx` comes to (R392). -/
theorem fetchUpTx_walk (c k : NodeKind) (n : Nat) (others : List NodeKind) (hk : k ≠ .consumer) :
    (c :: List.replicate n .consumer ++ k :: others).tail.find? (· != .consumer) = some k := by
  rw [List.cons_append, List.tail_cons, find?_replicate_append]
  exact List.find?_cons_of_pos (bne_iff_ne.mpr hk)

theorem fetchUpTx_walk_end (c : NodeKind) (n : Nat) :
    (c :: List.replicate n NodeKind.consumer).tail.find? (· != .consumer) = none := by
  rw [List.tail_cons, ← List.append_nil (List.replicate n _), find?_replicate_append, List.find?_nil]

/-- The node a run of bytes on `phy_rx` comes to (R393). -/
theorem fetchPhyRx_walk (c k : NodeKind) (n : Nat) (others : List NodeKind) (hk : k ≠ .physicalSink) :
    (others ++ k :: List.replicate n .physicalSink ++ [c]).dropLast.reverse.find? (· != .physicalSink) = some k := by
  rw [List.dropLast_concat, List.reverse_append, List.reverse_cons, List.reverse_replicate, List.append_assoc,
    find?_replicate_append, List.singleton_append]
  exact List.find?_cons_of_pos (bne_iff_ne.mpr hk)

theorem fetchPhyRx_walk_end (c : NodeKind) (n : Nat) :
    (List.replicate n NodeKind.physicalSink ++ [c]).dropLast.reverse.find? (· != .physicalSink) = none := by
  rw [List.dropLast_concat, List.reverse_replicate, ← List.append_nil (List.replicate n _), find?_replicate_append,
    List.find?_nil]

/-- A refused call on a port leaves its answer only. -/
theorem step_of_refusedCall {s : State} {e : Event} {rest : List Event} (he : s.events = e :: rest)
    (hf : fetch s = .refusedCall) : step s = .next { s with events := rest, answer := .refused } := by
  rw [step_of_fetch_refusedCall hf, popEvent_of_events he]
  rfl

theorem step_of_event {s : State} {e : Event} {rest : List Event} {i : Instr} (he : s.events = e :: rest)
    (hf : fetch s = .instr i) (hwf : i.wf = true) : step s = exec i { s with events := rest } := by
  rw [step_of_fetch_instr hf hwf, popEvent_of_events he]

/-- What takes the bytes that are no one encoding of their layer; at the link-control layer there are none (R141). -/
theorem receiveOther_mem {f : WireFormat} {bs : Bytes} {r : DecodeReject} (hd : decode f bs = .error r) :
    (f, receiveOther f bs) ∈ ([(.slip, .rxBytes bs), (.bcsp, .rxFrame bs), (.cfg, .linkDispatch .unknown),
      (.h4t, .h4RecvBytes bs)] : List (WireFormat × Instr)) ∧ (receiveOther f bs).wf = true := by
  cases f with
  | lc =>
    simp only [decode, decodeLc] at hd
    split at hd <;> cases hd
  | _ => simp [receiveOther, Instr.wf]

/-- Settles O5: each port by the node its walk comes to, then the idle step, the layers and the ill-formed operand. -/
theorem portTransactionsAreRoutedByTheChain : Obligations.PortTransactionsAreRoutedByTheChain := by
  refine ⟨fun s rest n c k others tag p he hc => ?upTx, fun s rest n c tag p he hc => ?upTxEnd,
    fun s rest n k c others bs he hc => ?phyRx, fun s rest n c bs he hc => ?phyRxEnd,
    fun s rest => ⟨fun he => ?idle, fun f bs r he hd => ?layer, fun i he hwf => ?illFormed⟩⟩
  case upTx =>
    have hf := fetch_of_upTx he
    rw [hc, fetchUpTx] at hf
    refine ⟨?_, ?_, ?_⟩ <;> rintro rfl <;> rw [fetchUpTx_walk _ _ _ _ (by decide)] at hf
    · exact step_of_event he hf rfl
    · exact step_of_event he hf rfl
    · exact step_of_refusedCall he hf
  case upTxEnd =>
    have hf := fetch_of_upTx he
    rw [hc, fetchUpTx, fetchUpTx_walk_end] at hf
    exact step_of_refusedCall he hf
  case phyRx =>
    have hf := fetch_of_phyRx he
    rw [hc, fetchPhyRx] at hf
    refine ⟨?_, ?_, ?_⟩ <;> rintro rfl <;> rw [fetchPhyRx_walk _ _ _ _ (by decide)] at hf
    · exact step_of_event he hf rfl
    · exact step_of_event he hf rfl
    · exact step_of_refusedCall he hf
  case phyRxEnd =>
    have hf := fetch_of_phyRx he
    rw [hc, fetchPhyRx, fetchPhyRx_walk_end] at hf
    exact step_of_refusedCall he hf
  case idle => rw [step, fetch, he]
  case layer =>
    obtain ⟨hmem, hwf⟩ := receiveOther_mem hd
    have hf := fetchWire_of_error hd ▸ fetch_of_wire he
    exact ⟨_, hmem, step_of_event he hf hwf⟩
  case illFormed =>
    rw [step, fetch_of_op he]
    exact if_neg (Bool.eq_false_iff.mp hwf)

end Sys2Proof.Machine
end

section
/-! The SLIP codec (41_slip.md R200 to R204): what the escaping writes, that the decoder reads it back, and the scans of
the collector. -/

namespace Sys2Proof.Machine

/-! ### Escaping (R131, R200) -/

/-- The payload between the sentinels of its frame. -/
def slipBody (flow : Bool) (payload : Bytes) : Bytes := payload.flatMap (slipEscape flow)

theorem slipEncode_eq (payload : Bytes) (flow : Bool) :
    slipEncode payload flow = [0xC0] ++ slipBody flow payload ++ [0xC0] := rfl

@[simp] theorem slipBody_nil (flow : Bool) : slipBody flow [] = [] := rfl

@[simp] theorem slipBody_cons (flow : Bool) (b : Byte) (payload : Bytes) :
    slipBody flow (b :: payload) = slipEscape flow b ++ slipBody flow payload := List.flatMap_cons

theorem slipEncode_length (payload : Bytes) (flow : Bool) :
    (slipEncode payload flow).length = (slipBody flow payload).length + 2 := by
  rw [slipEncode_eq, List.length_append, List.length_append, List.length_singleton]
  omega

/-- The bytes that are escaped (R131). -/
def escapes (flow : Bool) (b : Byte) : Bool := b == 0xC0 || b == 0xDB || (flow && (b == 0x11 || b == 0x13))

theorem slipEscape_length : ∀ (flow : Bool) (b : Byte),
    (slipEscape flow b).length = 1 + if escapes flow b then 1 else 0 := by
  decide +kernel

theorem sentinel_not_mem_slipEscape : ∀ (flow : Bool) (b : Byte), (0xC0 : Byte) ∉ slipEscape flow b := by
  decide +kernel

theorem flowByte_not_mem_slipEscape :
    ∀ b : Byte, (0x11 : Byte) ∉ slipEscape true b ∧ (0x13 : Byte) ∉ slipEscape true b := by
  decide +kernel

theorem slipBody_length (flow : Bool) (payload : Bytes) :
    (slipBody flow payload).length = payload.length + payload.countP (escapes flow) := by
  induction payload with
  | nil => rfl
  | cons b payload ih =>
    rw [slipBody_cons, List.length_append, ih, slipEscape_length, List.length_cons, List.countP_cons]
    omega

theorem not_mem_slipBody {flow : Bool} {c : Byte} (h : ∀ b, c ∉ slipEscape flow b) (payload : Bytes) :
    c ∉ slipBody flow payload := by
  rw [slipBody, List.mem_flatMap]
  rintro ⟨b, -, hb⟩
  exact h b hb

theorem sentinel_not_mem_slipBody (flow : Bool) (payload : Bytes) : (0xC0 : Byte) ∉ slipBody flow payload :=
  not_mem_slipBody (sentinel_not_mem_slipEscape flow) payload

/-- Every byte takes at least one byte of the body. -/
theorem slipBody_ne_nil {payload : Bytes} (h : payload ≠ []) (flow : Bool) : slipBody flow payload ≠ [] := by
  have hpos := List.length_pos_iff.mpr h
  apply List.ne_nil_of_length_pos
  rw [slipBody_length]
  omega

theorem exec_slipEncode_of_live (payload : Bytes) (flow : Bool) {s : State} (ha : s.alive = true)
    (hh : s.halted = false) :
    exec (.slipEncode payload flow) s = .next (s.answering (.bytes (slipEncode payload flow))) :=
  onLive_of_live ha hh

/-- Settles O6: the body is the payload escaped byte by byte. -/
theorem slipEncodeWritesTheEscapedFrame : Obligations.SlipEncodeWritesTheEscapedFrame := by
  intro payload flow s ha hh
  refine ⟨slipBody flow payload, exec_slipEncode_of_live payload flow ha hh, rfl, slipBody_length flow payload,
    sentinel_not_mem_slipBody flow payload, ?_⟩
  rintro rfl
  exact ⟨not_mem_slipBody (fun b => (flowByte_not_mem_slipEscape b).1) payload,
    not_mem_slipBody (fun b => (flowByte_not_mem_slipEscape b).2) payload⟩

/-! ### Decoding (R201) -/

theorem exec_slipDecode_of_live (frame : Bytes) {s : State} (ha : s.alive = true) (hh : s.halted = false) :
    exec (.slipDecode frame) s = .next (s.answering (.bytes (slipDecode frame))) :=
  onLive_of_live ha hh

theorem slipDecode_frame (body : Bytes) : slipDecode ([0xC0] ++ body ++ [0xC0]) = slipDecodeBody body := by
  rw [slipDecode, List.append_assoc, List.singleton_append, List.tail_cons, List.dropLast_concat]

/-- The four codes of the table (R131). -/
theorem escData_eq_some_iff : ∀ x d : Byte, escData x = some d ↔
    (x = 0xDC ∧ d = 0xC0) ∨ (x = 0xDD ∧ d = 0xDB) ∨ (x = 0xDE ∧ d = 0x11) ∨ (x = 0xDF ∧ d = 0x13) := by
  intro x d
  unfold escData Config.escEnd Config.escEsc Config.escXon Config.escXoff Config.slipEnd Config.slipEsc Config.xon
    Config.xoff
  split_ifs <;> simp_all [eq_comm]

theorem escData_eq_none_iff (x : Byte) : escData x = none ↔ x ≠ 0xDC ∧ x ≠ 0xDD ∧ x ≠ 0xDE ∧ x ≠ 0xDF := by
  unfold escData Config.escEnd Config.escEsc Config.escXon Config.escXoff
  split_ifs <;> simp_all

/-- The decoder takes back one escaped byte. -/
theorem slipDecodeBody_slipEscape (flow : Bool) (b : Byte) (rest : Bytes) :
    slipDecodeBody (slipEscape flow b ++ rest) = b :: slipDecodeBody rest := by
  unfold slipEscape
  split_ifs with hEnd hEsc hXon hXoff
  · rw [hEnd]; exact slipDecodeBody_escaped _ _ rest rfl
  · rw [hEsc]; exact slipDecodeBody_escaped _ _ rest rfl
  · rw [hXon.1]; exact slipDecodeBody_escaped _ _ rest rfl
  · rw [hXoff.1]; exact slipDecodeBody_escaped _ _ rest rfl
  · exact slipDecodeBody_plain b rest hEsc

theorem slipDecodeBody_slipBody (flow : Bool) (payload : Bytes) :
    slipDecodeBody (slipBody flow payload) = payload := by
  induction payload with
  | nil => rfl
  | cons b payload ih => rw [slipBody_cons, slipDecodeBody_slipEscape, ih]

/-- R203: decoding an encoded payload gives it back. -/
theorem slipDecode_slipEncode (payload : Bytes) (flow : Bool) : slipDecode (slipEncode payload flow) = payload := by
  rw [slipEncode_eq, slipDecode_frame, slipDecodeBody_slipBody]

/-- The decoder's loop reads what the branches of R201 read. -/
theorem slipDecodeBody_of_slipReads {body out : Bytes} (h : SlipReads body out) : slipDecodeBody body = out := by
  induction h with
  | done => rfl
  | escaped x d rest out code _ ih => rw [slipDecodeBody_escaped x d rest ((escData_eq_some_iff x d).mpr code), ih]
  | unrecognised x rest out hx _ ih =>
    rw [slipDecodeBody_unrecognised x rest ((escData_eq_none_iff x).mpr hx), ih]
  | cutOff => rfl
  | plain b rest out hb _ ih => rw [slipDecodeBody_plain b rest hb, ih]

/-- The branches of R201 read every body: an escape code takes two bytes, every other byte is taken alone. -/
theorem exists_slipReads (body : Bytes) : ∃ out, SlipReads body out := by
  match body with
  | [] => exact ⟨[], .done⟩
  | [b] =>
    by_cases hb : b = 0xDB
    · exact ⟨[0xDB], hb ▸ .cutOff⟩
    · exact ⟨[b], .plain b [] [] hb .done⟩
  | b :: x :: rest =>
    obtain ⟨out, hout⟩ := exists_slipReads (x :: rest)
    by_cases hb : b = 0xDB
    · subst hb
      cases hx : escData x with
      | none => exact ⟨_, .unrecognised x rest out ((escData_eq_none_iff x).mp hx) hout⟩
      | some d =>
        obtain ⟨out', hout'⟩ := exists_slipReads rest
        exact ⟨_, .escaped x d rest out' ((escData_eq_some_iff x d).mp hx) hout'⟩
    · exact ⟨_, .plain b (x :: rest) out hb hout⟩
termination_by body.length

/-- Settles O8: the loop follows the branches, and the branches cover every body. -/
theorem slipDecodeReadsTheBody : Obligations.SlipDecodeReadsTheBody := by
  refine ⟨fun body out s ha hh _ hreads => ?_, exists_slipReads⟩
  rw [exec_slipDecode_of_live _ ha hh, slipDecode_frame, slipDecodeBody_of_slipReads hreads]
  rfl

/-! ### One scan of the collector (R202) -/

/-- The counts of a scan that begins earlier. -/
theorem Collected.mk_more (buf : Option Bytes) (rest : Bytes) (n : Nat) (done : Bool) (ds : List Bool) (k m j : Nat) :
    (⟨buf, rest, n, done, ds, k⟩ : Collected).more m j = ⟨buf, rest, m + n, done, ds, j + k⟩ := by
  rw [Collected.more, Nat.add_comm n, Nat.add_comm k]

theorem slipCollect_nil (ds : List Bool) (buf : Option Bytes) :
    slipCollect ds buf [] = ⟨buf, [], 0, false, ds, 0⟩ := rfl

/-- The first sentinel opens a frame. -/
theorem slipCollect_opens (ds : List Bool) (bs : Bytes) :
    slipCollect ds none (0xC0 :: bs) = (slipCollect ds (some [0xC0]) bs).more 1 0 := rfl

/-- A sentinel closes a frame that holds more than its start sentinel. -/
theorem slipCollect_closes (ds : List Bool) {f : Bytes} (hf : f.length ≠ 1) (bs : Bytes) :
    slipCollect ds (some f) (0xC0 :: bs) = ⟨some (f ++ [0xC0]), bs, 1, true, ds, 0⟩ := by
  simp [slipCollect, Config.slipEnd, hf]

/-- Garbage, then a run of sentinels: one start sentinel. -/
theorem slipCollect_finds_start (ds : List Bool) {g : Bytes} (hg : (0xC0 : Byte) ∉ g) (k : Nat) (bs : Bytes) :
    slipCollect ds none (g ++ List.replicate (k + 1) 0xC0 ++ bs) =
      (slipCollect ds (some [0xC0]) bs).more (g.length + (k + 1)) 0 := by
  have hsent : slipCollect ds (some [0xC0]) (List.replicate k 0xC0 ++ bs) =
      (slipCollect ds (some [0xC0]) bs).more k 0 := slipCollect_sentinels ds k bs
  rw [List.append_assoc, slipCollect_garbage ds g _ hg, List.replicate_succ, List.cons_append, slipCollect_opens, hsent,
    Collected.more_more, Collected.more_more]
  congr 1
  omega

variable {ds : List Bool} {x : Bytes}

/-- A body without sentinel joins the open frame (R202, R105). -/
theorem slipCollect_appends (hds : ∀ d ∈ ds, d = true) (hx : (0xC0 : Byte) ∉ x) (f : Bytes) :
    slipCollect ds (some f) x = ⟨some (f ++ x), [], x.length, false, ds.drop x.length, 0⟩ := by
  have h := slipCollect_body ds f x [] hx hds
  rw [List.append_nil, slipCollect_nil] at h
  rw [h, Collected.mk_more]
  rfl

/-- A body and a sentinel complete the open frame. -/
theorem slipCollect_completes (hds : ∀ d ∈ ds, d = true) (hx : (0xC0 : Byte) ∉ x) {f : Bytes}
    (hf : (f ++ x).length ≠ 1) (rest : Bytes) :
    slipCollect ds (some f) (x ++ [0xC0] ++ rest) =
      ⟨some (f ++ x ++ [0xC0]), rest, x.length + 1, true, ds.drop x.length, 0⟩ := by
  rw [List.append_assoc, slipCollect_body ds f x _ hx hds, List.singleton_append, slipCollect_closes _ hf,
    Collected.mk_more]

theorem length_start_append_ne_one {f : Bytes} (h : f ≠ []) : ([0xC0] ++ f : Bytes).length ≠ 1 := by
  have := List.length_pos_iff.mpr h
  rw [List.length_append, List.length_singleton]
  omega

/-- The collector takes the frame of a non-empty payload whole (R203). -/
theorem slipCollect_slipEncode (hds : ∀ d ∈ ds, d = true) {payload : Bytes} (hp : payload ≠ []) (flow : Bool) :
    slipCollect ds none (slipEncode payload flow) =
      ⟨some (slipEncode payload flow), [], (slipEncode payload flow).length, true,
        ds.drop ((slipEncode payload flow).length - 2), 0⟩ := by
  have hscan := slipCollect_completes hds (sentinel_not_mem_slipBody flow payload)
    (length_start_append_ne_one (slipBody_ne_nil hp flow)) []
  rw [List.append_nil] at hscan
  rw [slipEncode_length, Nat.add_sub_cancel, slipEncode_eq, List.append_assoc, List.singleton_append,
    slipCollect_opens, hscan]
  rfl

end Sys2Proof.Machine
end

section
/-! The collector's operations (41_slip.md R202 to R204). -/

namespace Sys2Proof.Machine

/-! ### The operations that answer in place -/

/-- A scan without a failed draw raises no report. -/
theorem afterScan_of_no_fails {c : Collected} (hc : c.fails = 0) (s : State) :
    s.afterScan c = { s with allocDraws := c.draws } := by
  rw [State.afterScan, raiseAllocs, hc, List.replicate_zero, List.append_nil]

theorem exec_slipCollect_of_live (buf : Option Bytes) (bs : Bytes) {s : State} (ha : s.alive = true)
    (hh : s.halted = false) {c : Collected} (hc : slipCollect s.allocDraws buf bs = c) :
    exec (.slipCollect buf bs) s = .next ((s.afterScan c).answering (.collected c.buf c.consumed c.completed)) := by
  subst hc
  exact onLive_of_live ha hh

theorem exec_slipResync_of_live (incoming : Bytes) (i : Nat) {s : State} (ha : s.alive = true) (hh : s.halted = false)
    {c : Collected} (hc : slipCollect s.allocDraws none (incoming.drop i) = c) :
    exec (.slipResync incoming i) s =
      .next (((raiseFault .alloc s).afterScan c).answering (.collected c.buf (c.consumed + i) c.completed)) := by
  subst hc
  exact onLive_of_live ha hh

theorem exec_slipCollect_of_no_fails {buf b : Option Bytes} {bs rest : Bytes} {s : State} {n : Nat} {done : Bool}
    {ds : List Bool} (ha : s.alive = true) (hh : s.halted = false)
    (hc : slipCollect s.allocDraws buf bs = ⟨b, rest, n, done, ds, 0⟩) :
    exec (.slipCollect buf bs) s = .next { s with allocDraws := ds, answer := .collected b n done } := by
  rw [exec_slipCollect_of_live buf bs ha hh hc, afterScan_of_no_fails rfl]
  rfl

/-- Settles O7: the decoder reads the escaped body back, and the collector scans sentinel, body, sentinel. -/
theorem slipRoundTrip : Obligations.SlipRoundTrip := by
  intro payload flow s ha hh
  refine ⟨?decode, fun hds hp => ?collect, ?empty⟩
  case decode =>
    rw [exec_slipDecode_of_live _ ha hh, slipDecode_slipEncode]
    rfl
  case collect => exact exec_slipCollect_of_no_fails ha hh (slipCollect_slipEncode hds hp flow)
  case empty => exact exec_slipCollect_of_no_fails ha hh (rest := []) rfl

/-- Settles O9: garbage, sentinels and a body, scanned from each of the three collectors. -/
theorem slipCollectScansForOneFrame : Obligations.SlipCollectScansForOneFrame := by
  intro s g x f rest k ha hh hds hg hx
  have hsent : ∀ bs, slipCollect s.allocDraws (some [0xC0]) (List.replicate k 0xC0 ++ bs) =
      (slipCollect s.allocDraws (some [0xC0]) bs).more k 0 := slipCollect_sentinels s.allocDraws k
  refine ⟨?garbage, ?opens, fun hne => ?opensAndCloses, ?goesOn, fun hne => ?goesOnAndCloses, fun hf => ?joins,
    fun hf => ?joinsAndCloses⟩ <;> apply exec_slipCollect_of_no_fails ha hh
  case garbage =>
    have h := slipCollect_garbage s.allocDraws g [] hg
    rw [List.append_nil, slipCollect_nil] at h
    rw [h, Collected.mk_more]
    rfl
  case opens =>
    rw [slipCollect_finds_start _ hg, slipCollect_appends hds hx, Collected.mk_more]
  case opensAndCloses =>
    rw [List.append_assoc _ x, List.append_assoc _ (x ++ _), slipCollect_finds_start _ hg,
      slipCollect_completes hds hx (length_start_append_ne_one hne), Collected.mk_more]
    rfl
  case goesOn => rw [hsent, slipCollect_appends hds hx, Collected.mk_more]
  case goesOnAndCloses =>
    rw [List.append_assoc _ x, List.append_assoc _ (x ++ _), hsent,
      slipCollect_completes hds hx (length_start_append_ne_one hne), Collected.mk_more]
    rfl
  case joins => exact slipCollect_appends hds hx _
  case joinsAndCloses =>
    refine slipCollect_completes hds hx ?_ rest
    rw [List.append_assoc]
    exact length_start_append_ne_one (List.append_ne_nil_of_left_ne_nil hf x)

/-! ### A failed allocation (R204) -/

/-- One failed draw is one ALLOC report before those of the scan that goes on. -/
theorem afterScan_more_fail (s : State) (c : Collected) (n : Nat) :
    s.afterScan (c.more n 1) = (raiseFault .alloc s).afterScan c := by
  have hfaults : s.faults ++ List.replicate (c.fails + 1) Report.alloc =
      s.faults ++ [.alloc] ++ List.replicate c.fails .alloc := by
    rw [List.replicate_succ, List.append_assoc, List.singleton_append]
  simp only [State.afterScan, raiseAllocs, Collected.more_fails, Collected.more_draws, hfaults,
    raiseFault_of_not_fatal (r := .alloc) rfl]

/-- The draws of a body that all succeed are used up before the next (R202). -/
theorem slipCollect_body_drawn (ds : List Bool) (f bs : Bytes) {x : Bytes} (hx : (0xC0 : Byte) ∉ x) :
    slipCollect (List.replicate x.length true ++ ds) (some f) (x ++ bs) =
      (slipCollect ds (some (f ++ x)) bs).more x.length 0 := by
  induction x generalizing f with
  | nil => simp
  | cons b x ih =>
    simp only [List.mem_cons, not_or] at hx
    have hone : slipCollect (true :: (List.replicate x.length true ++ ds)) (some f) (b :: (x ++ bs)) =
        (slipCollect (List.replicate x.length true ++ ds) (some (f ++ [b])) (x ++ bs)).more 1 0 := by
      rw [slipCollect]
      exact if_neg (Ne.symm hx.1)
    rw [List.length_cons, List.replicate_succ, List.cons_append, List.cons_append, hone, ih (f ++ [b]) hx.2,
      Collected.more_more, List.append_assoc, List.singleton_append]

/-- The byte whose allocation fails is consumed and the frame is dropped. -/
theorem slipCollect_drops_frame (ds : List Bool) (f bs : Bytes) {b : Byte} (hb : b ≠ 0xC0) :
    slipCollect (false :: ds) (some f) (b :: bs) = (slipCollect ds none bs).more 1 1 := by
  rw [slipCollect]
  exact if_neg hb

/-- Settles O10: SLIP.RESYNC is the scan of the rest after one report, which is what a failed draw leaves of
SLIP.COLLECT. -/
theorem slipResyncDropsTheFrame : Obligations.SlipResyncDropsTheFrame := by
  constructor
  case left =>
    intro incoming i s ha hh _
    refine ⟨_, _, _, _, exec_slipCollect_of_live (s := { s with faults := s.faults ++ [.alloc] }) none
      (incoming.drop i) ha hh rfl, rfl, ?_⟩
    rw [exec_slipResync_of_live incoming i ha hh rfl, raiseFault_of_not_fatal rfl]
    rfl
  case right =>
    intro f x rest b draws s ha hh hx hb hdraws
    have hscan : slipCollect s.allocDraws (some ([0xC0] ++ f)) (x ++ b :: rest) =
        (slipCollect draws none rest).more (x.length + 1) 1 := by
      rw [hdraws, slipCollect_body_drawn _ _ _ hx, slipCollect_drops_frame _ _ _ hb, Collected.more_more,
        Nat.add_comm 1]
    have hdrop : (x ++ b :: rest).drop (x.length + 1) = rest := by
      rw [List.drop_append, List.drop_eq_nil_of_le (Nat.le_succ _), Nat.add_sub_cancel_left]
      rfl
    refine ⟨_, exec_slipResync_of_live (s := { s with allocDraws := draws }) (x ++ b :: rest) (x.length + 1) ha hh
      (congrArg _ hdrop), ?_⟩
    rw [exec_slipCollect_of_live _ _ ha hh hscan, afterScan_more_fail]
    rfl

end Sys2Proof.Machine
end

section
/-! The CRC generator (42_bcsp_crc.md R230, R231): its most-significant-bit-first form, and that it tells two sequences
apart that differ in one byte (R236). -/

namespace Sys2Proof.Machine

/-! ### The serial line's form (R231) -/

theorem crcUpdate_eq_foldl_lineBits (reg : BitVec 16) (d : Byte) :
    crcUpdate reg d = (lineBits d).foldl crcBit reg := rfl

/-- Reversed as a whole, the reflected generator over a sequence of bits is the most-significant-bit-first one. -/
theorem foldl_crcBit_reverse (bits : List Bool) (reg : BitVec 16) :
    (bits.foldl crcBit reg).reverse = bits.foldl msbCrcBit reg.reverse := by
  induction bits generalizing reg with
  | nil => rfl
  | cons d bits ih => rw [List.foldl_cons, ih, crcBit_reverse, List.foldl_cons]

theorem foldl_crcUpdate_reverse (bs : Bytes) (reg : BitVec 16) :
    (bs.foldl crcUpdate reg).reverse = (bs.flatMap lineBits).foldl msbCrcBit reg.reverse := by
  induction bs generalizing reg with
  | nil => rfl
  | cons b bs ih =>
    rw [List.foldl_cons, ih, crcUpdate_eq_foldl_lineBits, foldl_crcBit_reverse, List.flatMap_cons, List.foldl_append]

theorem crc16_eq_msbCrc (bs : Bytes) : crc16 bs = msbCrc (bs.flatMap lineBits) :=
  foldl_crcUpdate_reverse bs Config.crcInit

theorem exec_crcUpdate_of_live (reg : BitVec 16) (d : Byte) {s : State} (ha : s.alive = true)
    (hh : s.halted = false) : exec (.crcUpdate reg d) s = .next (s.answering (.word (crcUpdate reg d))) :=
  onLive_of_live ha hh

theorem exec_crc16_of_live (bs : Bytes) {s : State} (ha : s.alive = true) (hh : s.halted = false) :
    exec (.crc16 bs) s = .next (s.answering (.word (crc16 bs))) :=
  onLive_of_live ha hh

/-- Settles O12: the first form is the definition's, the second reverses the register bit by bit. -/
theorem crcIsTheMsbFirstCrcOfTheLine : Obligations.CrcIsTheMsbFirstCrcOfTheLine := by
  refine ⟨fun reg d s ha hh => exec_crcUpdate_of_live reg d ha hh,
    fun bs s ha hh => ⟨exec_crc16_of_live bs ha hh, ?_⟩⟩
  rw [exec_crc16_of_live bs ha hh, crc16_eq_msbCrc]
  rfl

/-! ### One changed byte changes the CRC (R236) -/

/-- The generator is linear over exclusive-or. -/
theorem crcBit_xor (r r' : BitVec 16) (d d' : Bool) :
    crcBit (r ^^^ r') (d ^^ d') = crcBit r d ^^^ crcBit r' d' := by
  have hfeedback : ((r ^^^ r').getLsbD 0 ^^ (d ^^ d')) = ((r.getLsbD 0 ^^ d) ^^ (r'.getLsbD 0 ^^ d')) := by
    rw [BitVec.getLsbD_xor, Bool.xor_assoc, Bool.xor_assoc, Bool.xor_left_comm (r'.getLsbD 0)]
  unfold crcBit
  rw [hfeedback, BitVec.ushiftRight_xor_distrib]
  generalize r >>> 1 = a
  generalize r' >>> 1 = b
  cases r.getLsbD 0 ^^ d <;> cases r'.getLsbD 0 ^^ d'
  case false.false => rfl
  case false.true => exact BitVec.xor_assoc a b _
  case true.false => exact (BitVec.xor_assoc a b _).trans ((congrArg _ (BitVec.xor_comm b _)).trans
    (BitVec.xor_assoc a _ b).symm)
  case true.true =>
    show a ^^^ b = (a ^^^ Config.crcPolyReflected) ^^^ (b ^^^ Config.crcPolyReflected)
    rw [BitVec.xor_comm b, BitVec.xor_assoc, ← BitVec.xor_assoc Config.crcPolyReflected, BitVec.xor_self,
      BitVec.zero_xor]

theorem crcUpdate_xor (r r' : BitVec 16) (d d' : Byte) :
    crcUpdate (r ^^^ r') (d ^^^ d') = crcUpdate r d ^^^ crcUpdate r' d' := by
  simp only [crcUpdate, List.foldl_cons, List.foldl_nil, BitVec.getLsbD_xor, crcBit_xor]

/-- From a clear register only a clear byte leaves a clear register. -/
theorem eq_zero_of_crcUpdate_zero : ∀ e : Byte, crcUpdate 0 e = 0 → e = 0 := by
  decide +kernel

theorem crcUpdate_byte_injective (r : BitVec 16) {d d' : Byte} (h : crcUpdate r d = crcUpdate r d') : d = d' := by
  have hzero : crcUpdate 0 (d ^^^ d') = 0 := by
    have hlin := crcUpdate_xor r r d d'
    rwa [BitVec.xor_self, h, BitVec.xor_self] at hlin
  have hxor := eq_zero_of_crcUpdate_zero _ hzero
  calc d = d ^^^ (d' ^^^ d') := by rw [BitVec.xor_self, BitVec.xor_zero]
    _ = d' := by rw [← BitVec.xor_assoc, hxor]; exact BitVec.zero_xor

theorem crcUpdate_register_injective (d : Byte) {r r' : BitVec 16} (h : crcUpdate r d = crcUpdate r' d) : r = r' := by
  simp only [crcUpdate, List.foldl_cons, List.foldl_nil] at h
  iterate 8 replace h := crcBit_injective _ _ _ h
  exact h

/-- Equal bytes that follow keep two registers apart. -/
theorem foldl_crcUpdate_injective (bs : Bytes) {r r' : BitVec 16} (h : bs.foldl crcUpdate r = bs.foldl crcUpdate r') :
    r = r' := by
  induction bs generalizing r r' with
  | nil => exact h
  | cons b bs ih => exact crcUpdate_register_injective b (ih h)

theorem bitrev16_injective {v v' : BitVec 16} (h : bitrev16 v = bitrev16 v') : v = v' := by
  have := congrArg BitVec.reverse h
  rwa [bitrev16, bitrev16, BitVec.reverse_reverse_eq, BitVec.reverse_reverse_eq] at this

/-- The CRC of a sequence changes with any one of its bytes. -/
theorem crc16_set_ne {bs : Bytes} {i : Nat} {b : Byte} (hi : i < bs.length) (hb : bs[i]? ≠ some b) :
    crc16 (bs.set i b) ≠ crc16 bs := by
  intro h
  have hset : bs.set i b = bs.take i ++ b :: bs.drop (i + 1) := List.set_eq_take_cons_drop b hi
  have hbs : bs = bs.take i ++ bs[i] :: bs.drop (i + 1) := by rw [List.cons_getElem_drop_succ, List.take_append_drop]
  have hreg : crcRegister (bs.set i b) = crcRegister bs := bitrev16_injective h
  rw [hset] at hreg
  conv at hreg => rhs; rw [hbs]
  simp only [crcRegister, List.foldl_append, List.foldl_cons] at hreg
  have hbyte : b = bs[i] := crcUpdate_byte_injective _ (foldl_crcUpdate_injective _ hreg)
  exact hb (by rw [List.getElem?_eq_getElem hi, hbyte])

theorem crcBytes_injective {c c' : BitVec 16} (h : crcBytes c = crcBytes c') : c = c' := by
  simp only [crcBytes, List.cons.injEq, and_true] at h
  obtain ⟨hfirst, hsecond⟩ := h
  refine BitVec.eq_of_getLsbD_eq fun i hi => ?_
  by_cases h8 : i < 8
  case pos =>
    have := congrArg (·.getLsbD i) hsecond
    simpa [Config.crcSecondAt, h8] using this
  case neg =>
    have := congrArg (·.getLsbD (i - 8)) hfirst
    simpa [Config.crcFirstAt, show i - 8 < 8 by omega, Nat.add_sub_cancel' (Nat.not_lt.mp h8)] using this

end Sys2Proof.Machine
end

section
/-! Packing and unpacking a BCSP frame (42_bcsp_crc.md R233, R234, R236). -/

namespace Sys2Proof.Machine

/-! ### The header word -/

/-- The first three bytes of a header word do not depend on its checksum (R134). -/
theorem headerWord_bytes (c : Byte) (l : BitVec 12) (t : BitVec 4) (r k : Bool) (a s : Count3) :
    (headerWord c l t r k a s).extractLsb' 0 8 = hdrByte0 s a k r ∧
    (headerWord c l t r k a s).extractLsb' 8 8 = hdrByte1 t l ∧
    (headerWord c l t r k a s).extractLsb' 16 8 = hdrByte2 l := by
  have h := headerBytes_headerWord c l t r k a s
  simp only [headerBytes, hdrWordBytes, List.cons.injEq] at h
  obtain ⟨h0, h1, h2, -⟩ := h
  exact ⟨h0, h1, h2⟩

/-- The checksum of a header word is HDR.CHECKSUM of its first three bytes (R232). -/
theorem headerWord_checksum (c : Byte) (l : BitVec 12) (t : BitVec 4) (r k : Bool) (a s : Count3) :
    ~~~((headerWord c l t r k a s).extractLsb' 0 8 + (headerWord c l t r k a s).extractLsb' 8 8 +
      (headerWord c l t r k a s).extractLsb' 16 8) = hdrChecksum (hdrByte0 s a k r) (hdrByte1 t l) (hdrByte2 l) := by
  obtain ⟨h0, h1, h2⟩ := headerWord_bytes c l t r k a s
  rw [h0, h1, h2]
  rfl

/-- The header fields BCSP.PACK chooses, with the checksum it computes (R233). -/
def packFields (seq ack : Count3) (crc reliable : Bool) (type : BitVec 4) (length : BitVec 12) : HdrFields where
  seq := seq
  ack := ack
  crcPresent := crc
  reliable := reliable
  length := length
  checksum := hdrChecksum (hdrByte0 seq ack crc reliable) (hdrByte1 type length) (hdrByte2 length)

theorem packHeader_eq_hdrWordBytes (seq ack : Count3) (crc reliable : Bool) (type : BitVec 4) (length : BitVec 12) :
    packHeader seq ack crc reliable type length = hdrWordBytes type (packFields seq ack crc reliable type length) := rfl

theorem hdrWordBytes_length (type : BitVec 4) (h : HdrFields) : (hdrWordBytes type h).length = 4 := rfl

theorem crcBytes_length (c : BitVec 16) : (crcBytes c).length = 2 := rfl

/-- The CRC's place after the payload (R138). -/
def crcTail (crc : Bool) (f : Bytes) : Bytes := if crc then crcBytes (crc16 f) else []

theorem crcTail_length (crc : Bool) (f : Bytes) : (crcTail crc f).length = if crc then 2 else 0 := by
  cases crc <;> rfl

/-- The frame is a header word, the payload, and the CRC where it has one (R233). -/
theorem bcspFrame_eq (seq ack : Count3) (crc reliable : Bool) (type : BitVec 4) (payload : Bytes) :
    bcspFrame seq ack crc reliable type payload =
      packHeader seq ack crc reliable type (BitVec.ofNat 12 payload.length) ++ (payload ++
        crcTail crc (packHeader seq ack crc reliable type (BitVec.ofNat 12 payload.length) ++ payload)) := by
  rw [← List.append_assoc]
  cases crc with
  | true => rfl
  | false => exact (List.append_nil _).symm

/-- The length field holds the length of every payload that is packed (R9). -/
theorem toNat_ofNat_length {payload : Bytes} (h : payload.length ≤ 4095) :
    (BitVec.ofNat 12 payload.length).toNat = payload.length := by
  rw [BitVec.toNat_ofNat]
  exact Nat.mod_eq_of_lt (by omega)

/-! ### Packing (R233) -/

theorem exec_bcspPack_of_inService {payload : Bytes} (type : BitVec 4) (reliable : Bool) (ack : Count3) (useCrc : Bool)
    {s : State} (h : s.inService) (hlen : payload.length ≤ 4095) :
    exec (.bcspPack payload type reliable ack useCrc) s = .next ((s.bumpSeq reliable).answering
      (.bytes (bcspFrame (s.packSeq reliable) ack useCrc reliable type payload))) :=
  if_pos (Bool.and_eq_true_iff.mpr ⟨bcspLive_of_inService h, decide_eq_true hlen⟩)

/-- Settles O14: the checksum is the one HDR.CHECKSUM gives, in whatever word it stands. -/
theorem packBuildsTheFrame : Obligations.PackBuildsTheFrame := by
  intro payload type reliable ack useCrc s h
  constructor
  case left =>
    intro hlen
    refine ⟨hdrChecksum _ _ _, _, _, rfl, (headerWord_checksum _ _ _ _ _ _ _).symm, rfl, ?_⟩
    rw [exec_bcspPack_of_inService type reliable ack useCrc h hlen, headerBytes_headerWord]
    rfl
  case right =>
    intro hlen
    have hlong : ¬ payload.length ≤ Config.maxPayload := Nat.not_le.mpr hlen
    exact turnedAway_of_not (by rw [decide_eq_false hlong, Bool.and_false])

/-! ### Unpacking (R234) -/

/-- Every sequence of four bytes is a header word (R134). -/
theorem exists_headerWord (b0 b1 b2 b3 : Byte) :
    [b0, b1, b2, b3] = headerBytes (headerWord b3 (hdrLength b1 b2) (hdrType b1) (hdrReliable b0) (hdrCrc b0)
      (hdrAck b0) (hdrSeq b0)) := by
  rw [headerBytes_headerWord]
  exact (hdrWordBytes_of_fields b0 b1 b2 b3).symm

theorem bcspUnpack_of_short {f : Bytes} (h : f.length < 4) : bcspUnpack f = .truncated := by
  match f, h with
  | [], _ | [_], _ | [_, _], _ | [_, _, _], _ => rfl
  | _ :: _ :: _ :: _ :: _, h => simp only [List.length_cons] at h; omega

/-- Settles O15: `bcspUnpack_word`, with the header word in the spec's layout. -/
theorem unpackChecksInOrder : Obligations.UnpackChecksInOrder := by
  refine ⟨fun f s ha hh hf => ?truncated, fun f hf => ?word,
    fun c length type reliable crc ack seq body word good n s ha hh hword hgood hn => ?checks⟩
  case truncated =>
    rw [exec_bcspUnpack_of_live f ha hh, bcspUnpack_of_short hf]
    rfl
  case word =>
    match f, hf with
    | b0 :: b1 :: b2 :: b3 :: body, _ =>
      exact ⟨_, _, _, _, _, _, _, body, congrArg (· ++ body) (exists_headerWord b0 b1 b2 b3)⟩
    | [], hf | [_], hf | [_, _], hf | [_, _, _], hf => simp at hf
  case checks =>
    subst hword hgood hn
    refine ⟨_, exec_bcspUnpack_of_live _ ha hh, ?_⟩
    rw [headerWord_checksum, headerBytes_headerWord, bcspUnpack_word]
    rfl

/-- A frame whose header and length are right is decided by its CRC (R234). -/
theorem bcspUnpack_of_right_length (type : BitVec 4) {h : HdrFields} {payload tail : Bytes}
    (hsum : h.checksum =
      hdrChecksum (hdrByte0 h.seq h.ack h.crcPresent h.reliable) (hdrByte1 type h.length) (hdrByte2 h.length))
    (hlen : h.length.toNat = payload.length) (htail : tail.length = if h.crcPresent then 2 else 0) :
    bcspUnpack (hdrWordBytes type h ++ (payload ++ tail)) =
      if h.crcPresent = true ∧ tail ≠ crcBytes (crc16 (hdrWordBytes type h ++ payload)) then .crcError
      else .ok ⟨h.seq, h.ack, h.crcPresent, h.reliable, type, h.length⟩ payload := by
  have hbody : (payload ++ tail).length = h.length.toNat + if h.crcPresent then 2 else 0 := by
    rw [List.length_append, htail, hlen]
  rw [bcspUnpack_word, if_neg (not_not.mpr hsum), if_neg (Nat.not_lt.mpr hbody.ge), if_neg (Nat.not_lt.mpr hbody.le),
    hlen, List.drop_left, List.take_left]

/-- R236: unpacking a packed frame gives back what was packed. -/
theorem bcspUnpack_bcspFrame (seq ack : Count3) (crc reliable : Bool) (type : BitVec 4) {payload : Bytes}
    (hlen : payload.length ≤ 4095) :
    bcspUnpack (bcspFrame seq ack crc reliable type payload) =
      .ok ⟨seq, ack, crc, reliable, type, BitVec.ofNat 12 payload.length⟩ payload := by
  rw [bcspFrame_eq, packHeader_eq_hdrWordBytes, bcspUnpack_of_right_length type rfl (toNat_ofNat_length hlen)
    (crcTail_length crc _)]
  refine if_neg ?_
  rintro ⟨hcrc, hne⟩
  obtain rfl : crc = true := hcrc
  exact hne rfl

/-- Settles O16: the frame is BCSP.PACK's answer. -/
theorem unpackOfPackGivesTheFrameBack : Obligations.UnpackOfPackGivesTheFrameBack := by
  intro payload type reliable ack useCrc s h hlen
  refine ⟨_, exec_bcspPack_of_inService type reliable ack useCrc h hlen, fun t ha hh => ?_⟩
  rw [exec_bcspUnpack_of_live _ ha hh, bcspUnpack_bcspFrame _ _ _ _ _ hlen]
  rfl

/-! ### One corrupted byte (R236) -/

/-- A header with one byte changed fails its checksum. -/
theorem bcspUnpack_header_set {b0 b1 b2 b3 : Byte} (hsum : b3 = hdrChecksum b0 b1 b2) {i : Nat} (hi : i < 4) {b : Byte}
    (hb : [b0, b1, b2, b3][i]? ≠ some b) (rest : Bytes) :
    bcspUnpack ([b0, b1, b2, b3].set i b ++ rest) = .checksumError := by
  have hne : ∀ c : Byte, c ≠ b → c + b1 + b2 ≠ b + b1 + b2 ∧ b0 + c + b2 ≠ b0 + b + b2 ∧ b0 + b1 + c ≠ b0 + b1 + b := by
    intro c hc
    refine ⟨?_, ?_, ?_⟩ <;> intro h <;> exact hc (by bv_omega)
  have hnot : ∀ {x y : Byte}, x ≠ y → ~~~x ≠ ~~~y := fun h e => h (BitVec.not_inj.mp e)
  interval_cases i <;> simp only [List.getElem?_cons_zero, List.getElem?_cons_succ, ne_eq, Option.some.injEq] at hb
  · exact bcspUnpack_of_ne_hdrChecksum (hsum ▸ hnot (hne b0 hb).1) rest
  · exact bcspUnpack_of_ne_hdrChecksum (hsum ▸ hnot (hne b1 hb).2.1) rest
  · exact bcspUnpack_of_ne_hdrChecksum (hsum ▸ hnot (hne b2 hb).2.2) rest
  · exact bcspUnpack_of_ne_hdrChecksum (fun e => hb (hsum.trans e.symm)) rest

/-- A payload or a CRC with one byte changed fails the CRC. -/
theorem bcspUnpack_body_set (type : BitVec 4) {h : HdrFields} {payload : Bytes} (hcrc : h.crcPresent = true)
    (hsum : h.checksum =
      hdrChecksum (hdrByte0 h.seq h.ack h.crcPresent h.reliable) (hdrByte1 type h.length) (hdrByte2 h.length))
    (hlen : h.length.toNat = payload.length) {j : Nat} {b : Byte}
    (hb : (payload ++ crcBytes (crc16 (hdrWordBytes type h ++ payload)))[j]? ≠ some b)
    (hj : j < (payload ++ crcBytes (crc16 (hdrWordBytes type h ++ payload))).length) :
    bcspUnpack (hdrWordBytes type h ++
      (payload ++ crcBytes (crc16 (hdrWordBytes type h ++ payload))).set j b) = .crcError := by
  by_cases hjp : j < payload.length
  case pos =>
    have hset : hdrWordBytes type h ++ payload.set j b = (hdrWordBytes type h ++ payload).set (4 + j) b := by
      rw [List.set_append_right _ _ (Nat.le_add_right 4 j), hdrWordBytes_length, Nat.add_sub_cancel_left]
    rw [List.getElem?_append_left hjp] at hb
    rw [List.set_append_left _ _ hjp, bcspUnpack_of_right_length type hsum (by rw [hlen, List.length_set])
      (by rw [hcrc]; rfl), hset]
    refine if_pos ⟨hcrc, fun e => crc16_set_ne (b := b) ?_ ?_ (crcBytes_injective e).symm⟩
    · rw [List.length_append, hdrWordBytes_length]
      omega
    · rwa [List.getElem?_append_right (Nat.le_add_right 4 j), hdrWordBytes_length, Nat.add_sub_cancel_left]
  case neg =>
    have hle : payload.length ≤ j := Nat.not_lt.mp hjp
    rw [List.getElem?_append_right hle] at hb
    rw [List.length_append] at hj
    rw [List.set_append_right _ _ hle, bcspUnpack_of_right_length type hsum hlen
      (by rw [List.length_set, hcrc]; rfl)]
    refine if_pos ⟨hcrc, fun e => hb ?_⟩
    rw [← e, List.getElem?_set_self (by omega)]

/-- Settles O17: the header's four bytes by the checksum, the bytes after it by the CRC. -/
theorem oneCorruptedByteIsDetected : Obligations.OneCorruptedByteIsDetected := by
  intro payload type reliable ack s h hlen
  refine ⟨_, exec_bcspPack_of_inService type reliable ack true h hlen, fun i b t ha hh hi hb => ?_⟩
  refine ⟨_, exec_bcspUnpack_of_live _ ha hh, fun hi4 => ?header, fun hi4 => ?body⟩
  all_goals
    rw [bcspFrame_eq, packHeader_eq_hdrWordBytes] at hi hb ⊢
  case header =>
    rw [List.getElem?_append_left hi4] at hb
    rw [List.set_append_left _ _ hi4]
    exact bcspUnpack_header_set rfl hi4 hb _
  case body =>
    rw [List.getElem?_append_right hi4] at hb
    rw [List.length_append, hdrWordBytes_length] at hi
    rw [List.set_append_right _ _ hi4]
    exact bcspUnpack_body_set type rfl rfl (toNat_ofNat_length hlen) hb (Nat.sub_lt_left_of_lt_add hi4 hi)

end Sys2Proof.Machine
end

section
/-! The conditions of the worker, the entry of a unit and the sending of one frame (43_arq.md R270 to R274,
45_power_fsm.md R367, R368). -/

namespace Sys2Proof.Machine

/-! ### Classification and entry (R270, R271) -/

/-- Settles O18: `classify`, row by row. -/
theorem classifyFollowsTheTable : Obligations.ClassifyFollowsTheTable := by
  intro s h row hrow
  have hrun : ∀ tag, exec (.arqClassify tag) s = .next (s.answering
      (.classified (classify s.params.vendorReliable tag).1 (classify s.params.vendorReliable tag).2)) :=
    fun _ => onBcsp_of_inService h
  simp only [List.mem_cons, List.not_mem_nil, or_false] at hrow
  rcases hrow with rfl | rfl | rfl | rfl | rfl | rfl | rfl <;> exact hrun _

theorem exec_upSend_of_refused {tag : Tag} {p : Bytes} {s : State} (h : s.inService)
    (hbad : tag = .ack ∨ tag = .link ∨ 4095 < p.length) :
    exec (.upSend tag p) s = .next (s.answering .refused) := by
  refine (if_pos (bcspLive_of_inService h)).trans (if_neg ?_)
  rw [Bool.and_eq_true, decide_eq_true_eq, Config.maxPayload]
  rintro ⟨htag, hlen⟩
  rcases hbad with rfl | rfl | hlong
  · cases htag
  · cases htag
  · omega

theorem exec_upSend_of_accepted {tag : Tag} {p : Bytes} {s : State} (h : s.inService) (hack : tag ≠ .ack)
    (hlink : tag ≠ .link) (hlen : p.length ≤ 4095) :
    exec (.upSend tag p) s =
      if allocOk s then .next ((s.dropAllocDraw.enqueue ⟨tag, p⟩).scheduleWorker.answering .done)
      else .next ((raiseFault .alloc s.dropAllocDraw).answering .allocFailed) := by
  have htag : upperTag tag = true := by cases tag <;> trivial
  exact (if_pos (bcspLive_of_inService h)).trans
    (if_pos (Bool.and_eq_true_iff.mpr ⟨htag, decide_eq_true hlen⟩))

theorem allocOk_of_cons_false {s : State} {draws : List Bool} (h : s.allocDraws = false :: draws) :
    allocOk s = false := by
  rw [allocOk, h]
  rfl

/-- What a failed allocation leaves: the report, and its draw used (R443). -/
theorem raiseFault_alloc_dropAllocDraw {s : State} {draws : List Bool} (h : s.allocDraws = false :: draws) :
    raiseFault .alloc s.dropAllocDraw = { s with faults := s.faults ++ [.alloc], allocDraws := draws } := by
  rw [raiseFault_of_not_fatal rfl, State.dropAllocDraw, h]
  rfl

theorem allocOk_of_head?_ne {s : State} (h : s.allocDraws.head? ≠ some false) : allocOk s = true := by
  cases hok : allocOk s with
  | true => rfl
  | false =>
    unfold allocOk at hok
    cases hd : s.allocDraws with
    | nil => rw [hd] at hok; cases hok
    | cons d ds => rw [hd] at hok h; exact absurd (congrArg some hok) h

theorem enqueue_of_reliable {s : State} {u : QUnit} (h : (classify s.params.vendorReliable u.tag).2 = true) :
    s.enqueue u = s.pushRel u :=
  if_pos h

theorem enqueue_of_unreliable {s : State} {u : QUnit} (h : (classify s.params.vendorReliable u.tag).2 = false) :
    s.enqueue u = s.pushUnrel u :=
  if_neg (Bool.eq_false_iff.mp h)

/-- Settles O19: refusal, failed allocation, and the two queues by the class of the tag. -/
theorem upSendQueuesTheUnit : Obligations.UpSendQueuesTheUnit := by
  intro tag p s h
  refine ⟨exec_upSend_of_refused h, fun hack hlink hlen => ?_⟩
  rw [exec_upSend_of_accepted h hack hlink hlen]
  refine ⟨fun draws hdraws => ?failed, fun hhead => ⟨fun htag => ?reliable, fun htag => ?unreliable⟩⟩
  case failed =>
    rw [allocOk_of_cons_false hdraws, raiseFault_alloc_dropAllocDraw hdraws]
    rfl
  case reliable =>
    have hclass : (classify s.params.vendorReliable tag).2 = true := by
      rcases htag with rfl | rfl | rfl | ⟨rfl, hv⟩
      · rfl
      · rfl
      · rfl
      · exact hv
    rw [if_pos (allocOk_of_head?_ne hhead), enqueue_of_reliable hclass]
    rfl
  case unreliable =>
    have hclass : (classify s.params.vendorReliable tag).2 = false := by
      rcases htag with rfl | ⟨rfl, hv⟩
      · rfl
      · exact hv
    rw [if_pos (allocOk_of_head?_ne hhead), enqueue_of_unreliable hclass]
    rfl

/-! ### The worker's conditions (R272, R367, R368) -/

theorem gateOpen_iff (s : State) : s.gateOpen = true ↔ s.gateIsOpen := by
  simp [State.gateOpen, State.gateIsOpen]

/-- The power messages are recognised by exactly their payloads (R139, R272). -/
theorem isPower_iff (u : QUnit) : isPower u = true ↔ u.power := by
  have hw : lcDecode u.payload = .wakeup ↔ u.payload = [0x05, 0xFA] :=
    (lcDecode_eq_iff (by decide)).trans (by simp only [lcBytes, Option.some.injEq]; exact eq_comm)
  have ho : lcDecode u.payload = .woken ↔ u.payload = [0x06, 0xF9] :=
    (lcDecode_eq_iff (by decide)).trans (by simp only [lcBytes, Option.some.injEq]; exact eq_comm)
  have hs : lcDecode u.payload = .sleep ↔ u.payload = [0x07, 0x78] :=
    (lcDecode_eq_iff (by decide)).trans (by simp only [lcBytes, Option.some.injEq]; exact eq_comm)
  simp only [isPower, Bool.and_eq_true, Bool.or_eq_true, decide_eq_true_eq, hw, ho, hs, QUnit.power, or_assoc]

theorem relReady_iff (s : State) : s.relReady = true ↔ s.reliableReady := by
  simp only [State.relReady, Bool.and_eq_true, decide_eq_true_eq, linkActive_iff_established, State.reliableReady,
    Bool.not_eq_true', List.isEmpty_eq_false_iff, and_assoc]

theorem work_iff (s : State) : s.work = true ↔ s.hasWork := by
  simp only [State.work, Bool.or_eq_true, relReady_iff, State.hasWork, Bool.not_eq_true', List.isEmpty_eq_false_iff,
    or_assoc]

theorem unrelSendable_iff (s : State) :
    s.unrelSendable = true ↔ ∃ v q, s.unrelQ = v :: q ∧ (v.power ∨ s.gateIsOpen) := by
  unfold State.unrelSendable
  split
  next hq => simp [hq]
  next u q hq => simp [hq, isPower_iff, gateOpen_iff]

theorem blocked_iff (s : State) :
    s.blocked = true ↔ (∃ v q, s.unrelQ = v :: q ∧ ¬ v.power) ∨ s.reliableReady ∨ s.ackRequired = true := by
  unfold State.blocked
  cases s.unrelQ with
  | nil => simp [relReady_iff]
  | cons u q => simp [relReady_iff, ← isPower_iff, or_assoc]

theorem bcspLive_iff (s : State) : s.bcspLive = true ↔ s.inService :=
  ⟨inService_of_bcspLive, bcspLive_of_inService⟩

theorem sendable_iff (s : State) :
    s.sendable = true ↔ (∃ v q, s.unrelQ = v :: q ∧ (v.power ∨ s.gateIsOpen)) ∨
      (s.gateIsOpen ∧ (s.reliableReady ∨ s.ackRequired = true)) := by
  simp only [State.sendable, Bool.or_eq_true, Bool.and_eq_true, unrelSendable_iff, gateOpen_iff, relReady_iff]

theorem txStepEnabled_iff (s : State) :
    s.txStepEnabled = true ↔ s.inService ∧ s.workerScheduled = true ∧ (¬ s.hasWork ∨ s.sendable = true) := by
  simp only [State.txStepEnabled, Bool.and_eq_true, Bool.or_eq_true, Bool.not_eq_true', bcspLive_iff, ← work_iff,
    Bool.not_eq_true, and_assoc]

theorem txWakeEnabled_iff (s : State) :
    s.txWakeEnabled = true ↔ s.inService ∧ s.workerScheduled = true ∧ s.peerState = .lowPower ∧
      s.wakeupPending = false ∧ s.blocked = true := by
  simp only [State.txWakeEnabled, Bool.and_eq_true, decide_eq_true_eq, Bool.not_eq_true', bcspLive_iff, and_assoc]

/-- Settles O20, condition by condition. -/
theorem workerConditionsAreTheRules : Obligations.WorkerConditionsAreTheRules := by
  intro s u
  refine ⟨gateOpen_iff s, isPower_iff u, relReady_iff s, work_iff s, ?_, ?_⟩
  · rw [txStepEnabled_iff, sendable_iff]
  · rw [txWakeEnabled_iff, blocked_iff]

/-! ### One frame (R273, R274) -/

theorem exec_txFrame_of_inService {u : QUnit} (reliable : Bool) {s : State} (h : s.inService)
    (hlen : u.payload.length ≤ 4095) : exec (.txFrame u reliable) s = (txFrame u reliable s).outcome .done :=
  if_pos (Bool.and_eq_true_iff.mpr ⟨bcspLive_of_inService h, decide_eq_true hlen⟩)

theorem exec_txAckFrame_of_inService {s : State} (h : s.inService) :
    exec .txAckFrame s = (txFrame ackUnit false s).outcome .done :=
  if_pos (bcspLive_of_inService h)

/-- Acknowledgement-only and link-control frames carry no CRC (R235). -/
theorem frameCrc_eq (s : State) (type : BitVec 4) : s.frameCrc type = (s.useCrc && type != 0 && type != 15) := by
  have hbne : ∀ t : BitVec 4, (type != t) = !decide (type = t) := fun t => by rw [bne, beq_eq_decide]
  rw [State.frameCrc, crcType, Bool.not_or, Bool.and_assoc, hbne, hbne]
  rfl

/-- The acknowledgement-only header: `ack << 3`, two zeros, the checksum (R274). -/
theorem packHeader_ackOnly : ∀ ack : Count3, packHeader 0 ack false false Config.typeAck 0 =
    [ack.setWidth 8 <<< 3, 0x00, 0x00, ~~~(ack.setWidth 8 <<< 3)] := by
  decide +kernel

theorem wireBytes_ackUnit (s : State) : s.wireBytes ackUnit false =
    slipEncode [s.ack.setWidth 8 <<< 3, 0x00, 0x00, ~~~(s.ack.setWidth 8 <<< 3)] s.swFlow := by
  have hcrc : s.frameCrc Config.typeAck = false := Bool.and_false _
  have hframe : bcspFrame 0 s.ack false false Config.typeAck [] =
      [s.ack.setWidth 8 <<< 3, 0x00, 0x00, ~~~(s.ack.setWidth 8 <<< 3)] :=
    (List.append_nil _).trans (packHeader_ackOnly s.ack)
  show slipEncode (bcspFrame 0 s.ack (s.frameCrc Config.typeAck) false Config.typeAck []) s.swFlow = _
  rw [hcrc, hframe]

/-- Settles O21: `txFrame_perfect`, with the frame's bytes written out. -/
theorem txFramePacksAndSends : Obligations.TxFramePacksAndSends := by
  intro s h hds hsink hchain
  constructor
  case left =>
    intro u reliable hlen
    refine ⟨_, _, rfl, rfl, ?_, ?_⟩
    · rw [← frameCrc_eq]
      rfl
    · rw [exec_txFrame_of_inService reliable h hlen,
        txFrame_perfect u reliable s (allocOk_of_allocsSucceed hds) hchain hsink, ← frameCrc_eq, ← hsink]
      rfl
  case right =>
    rw [exec_txAckFrame_of_inService h, txFrame_perfect ackUnit false s (allocOk_of_allocsSucceed hds) hchain hsink,
      ← wireBytes_ackUnit, ← hsink]
    rfl

end Sys2Proof.Machine
end

section
/-! One iteration of the worker, part by part, in an environment that never fails and in one that does (43_arq.md R272,
R274, 60_exceptions.md R443, R446, R447). -/

namespace Sys2Proof.Machine

/-! ### The parts with nothing to send -/

theorem txUnreliable_of_not_sendable {s : State} (h : s.unrelSendable = false) : txUnreliable s = .on s false := by
  rcases txUnreliable_cases s with ⟨-, e⟩ | ⟨u, q, hq, hg, -⟩
  · exact e
  · simp [State.unrelSendable, hq, hg] at h

theorem txReliable_of_not_ready {s : State} (h : (s.relReady && s.gateOpen) = false) (sent : Bool) :
    txReliable s sent = .on s sent := by
  rcases txReliable_cases s sent with ⟨-, e⟩ | ⟨-, -, -, hg, -⟩
  · exact e
  · exact absurd (h.symm.trans hg) Bool.false_ne_true

theorem txOwedAck_of_sent (s : State) : txOwedAck s true = .go s := rfl

theorem txOwedAck_of_not_owed {s : State} (h : s.ackRequired = false) (sent : Bool) : txOwedAck s sent = .go s := by
  rw [txOwedAck, h, Bool.and_false, Bool.false_and]
  rfl

theorem txStep_of_no_work {s : State} (h : s.work = false) : txStep s = .go { s with workerScheduled := false } :=
  if_neg (Bool.eq_false_iff.mp h)

/-- With work, the three parts one after the other. -/
theorem txStep_of_parts {s t t' : State} {sent sent' : Bool} (hw : s.work = true) (hun : txUnreliable s = .on t sent)
    (hre : txReliable t sent = .on t' sent') : txStep s = txOwedAck t' sent' := by
  simp only [txStep, if_pos hw, hun, hre]

theorem exec_txStep_of_enabled {s : State} (h : s.txStepEnabled = true) :
    exec .txStep s = (txStep s).outcome .done :=
  if_pos h

theorem unrelQ_of_sendable {s : State} (h : s.unrelSendable = true) :
    ∃ u q, s.unrelQ = u :: q ∧ (isPower u || s.gateOpen) = true := by
  unfold State.unrelSendable at h
  split at h
  next => cases h
  next u q hq => exact ⟨u, q, hq, h⟩

theorem relQ_of_ready {s : State} (h : s.relReady = true) : ∃ u q, s.relQ = u :: q := by
  simp only [State.relReady, Bool.and_eq_true, Bool.not_eq_true', List.isEmpty_eq_false_iff] at h
  exact List.exists_cons_of_ne_nil h.1.2

theorem work_of_sendable {s : State} (h : s.unrelSendable = true) : s.work = true := by
  obtain ⟨u, q, hq, -⟩ := unrelQ_of_sendable h
  rw [State.work, hq]
  rfl

theorem work_of_ready {s : State} (h : s.relReady = true) : s.work = true := by
  rw [State.work, h, Bool.or_true, Bool.true_or]

theorem work_of_owed {s : State} (h : s.ackRequired = true) : s.work = true := by
  rw [State.work, h, Bool.or_true]

/-! ### An environment that never fails (R105, R397) -/

/-- The premises R105 and R397 ask a claim to name, with a chain that leads to the sink. -/
structure State.neverFails (s : State) : Prop where
  allocs : s.allocsSucceed
  sink : s.perfectSink
  chain : sendsToSink s.params.chain .bcsp = true

theorem State.neverFails.tail {s : State} (h : s.neverFails) : ∀ d ∈ s.allocDraws.tail, d = true :=
  fun d hd => h.allocs d (List.mem_of_mem_tail hd)

theorem txUnreliable_perfect {s : State} (h : s.neverFails) {u : QUnit} {q : List QUnit} (hq : s.unrelQ = u :: q)
    (hs : s.unrelSendable = true) :
    txUnreliable s = .on { s with
      unrelQ := q
      allocDraws := s.allocDraws.tail
      phyTx := s.phyTx ++ s.wireBytes u false
      sinkDraws := []
      ackRequired := false } true := by
  obtain ⟨v, r, hv, hg⟩ := unrelQ_of_sendable hs
  obtain ⟨rfl, rfl⟩ := List.cons.inj (hq.symm.trans hv)
  have hsend := txFrame_perfect u false { s with unrelQ := q } (allocOk_of_allocsSucceed h.allocs) h.chain h.sink
  simp only [txUnreliable, hq, if_pos hg, hsend]
  rfl

theorem txReliable_perfect {s : State} (h : s.neverFails) {u : QUnit} {q : List QUnit} (hq : s.relQ = u :: q)
    (hr : (s.relReady && s.gateOpen) = true) (sent : Bool) :
    txReliable s sent = .on { s with
      relQ := q
      seq := s.seq + 1
      allocDraws := s.allocDraws.tail
      phyTx := s.phyTx ++ s.wireBytes u true
      sinkDraws := []
      ackRequired := false
      sentQ := s.sentQ ++ [u]
      credit := s.credit - 1
      rtxTimer := .armed } true := by
  have hsend := txFrame_perfect u true { s with relQ := q } (allocOk_of_allocsSucceed h.allocs) h.chain h.sink
  simp only [txReliable, hq, if_pos hr, hsend]
  rfl

theorem txOwedAck_perfect {s : State} (h : s.neverFails) (ha : s.ackRequired = true) (hg : s.gateOpen = true) :
    txOwedAck s false = .go { s with
      allocDraws := s.allocDraws.tail
      phyTx := s.phyTx ++ s.wireBytes ackUnit false
      sinkDraws := []
      ackRequired := false } := by
  have hsend := txFrame_perfect ackUnit false s (allocOk_of_allocsSucceed h.allocs) h.chain h.sink
  simp only [txOwedAck, ha, hg, Bool.not_false, Bool.and_true, if_true, hsend]
  rfl

/-- Where TX.STEP has work and neither queue can give a unit, it is an owed acknowledgement that may go (R272). -/
theorem owed_of_nothing_else {s : State} (he : s.txStepEnabled = true) (hw : s.work = true)
    (hun : s.unrelSendable = false) (hre : (s.relReady && s.gateOpen) = false) :
    s.ackRequired = true ∧ s.gateOpen = true := by
  have hsend : s.sendable = true := ((txStepEnabled_iff s).mp he).2.2.resolve_left (not_not.mpr ((work_iff s).mp hw))
  rw [State.sendable, hun, Bool.false_or, Bool.and_eq_true, Bool.or_eq_true] at hsend
  obtain ⟨hg, hr | ha⟩ := hsend
  · rw [hr, hg] at hre
    cases hre
  · exact ⟨ha, hg⟩

/-- Settles O22: the conditions that leave TX.STEP not enabled, then one case per queue that gives a unit. -/
theorem txStepSendsOneOfEach : Obligations.TxStepSendsOneOfEach := by
  refine ⟨fun s h => ⟨fun hws => ?unscheduled, fun hwork hgate hhead => ?heldBack⟩, fun s => turnedAway_of_not,
    fun s un re ackOnly he => ⟨fun hw => ?noWork, fun hw hds hsink hchain hun hre hack => ?sends⟩⟩
  case unscheduled =>
    refine turnedAway_of_not (Bool.eq_false_iff.mpr fun he => ?_)
    exact Bool.false_ne_true (hws.symm.trans ((txStepEnabled_iff s).mp he).2.1)
  case heldBack =>
    refine turnedAway_of_not (Bool.eq_false_iff.mpr fun he => ?_)
    have hsend := ((txStepEnabled_iff s).mp he).2.2.resolve_left (not_not.mpr hwork)
    rcases (sendable_iff s).mp hsend with ⟨u, q, hq, hp | hg⟩ | ⟨hg, -⟩
    · exact hhead u q hq hp
    · exact hgate hg
    · exact hgate hg
  case noWork =>
    rw [exec_txStep_of_enabled he, txStep_of_no_work hw]
    rfl
  case sends =>
    have hgood : s.neverFails := ⟨hds, hsink, hchain⟩
    rw [exec_txStep_of_enabled he]
    cases hu : s.unrelSendable with
    | false =>
      rw [hu] at hun
      have hpart := txUnreliable_of_not_sendable hu
      cases hr : s.relReady && s.gateOpen with
      | false =>
        rw [hr] at hre
        obtain ⟨hao, hg⟩ := owed_of_nothing_else he hw hu hr
        rw [txStep_of_parts hw hpart (txReliable_of_not_ready hr _), txOwedAck_perfect hgood hao hg, ← hsink]
        subst hun hre hack
        simp [ackUnit, State.answering]
      | true =>
        obtain ⟨v, r, hv⟩ := relQ_of_ready (Bool.and_eq_true_iff.mp hr).1
        rw [hr, hv] at hre
        rw [txStep_of_parts hw hpart (txReliable_perfect hgood hv hr _), txOwedAck_of_sent, ← hsink]
        subst hun hre hack
        simp [hv, State.answering]
    | true =>
      obtain ⟨u, q, hq, -⟩ := unrelQ_of_sendable hu
      rw [hu, hq] at hun
      have hpart := txUnreliable_perfect hgood hq hu
      cases hr : s.relReady && s.gateOpen with
      | false =>
        rw [hr] at hre
        rw [txStep_of_parts hw hpart (txReliable_of_not_ready (by exact hr) _), txOwedAck_of_sent, ← hsink]
        subst hun hre hack
        simp [hq, State.answering]
      | true =>
        obtain ⟨v, r, hv⟩ := relQ_of_ready (Bool.and_eq_true_iff.mp hr).1
        rw [hr, hv] at hre
        rw [txStep_of_parts hw hpart (txReliable_perfect (by exact ⟨hgood.tail, rfl, hchain⟩)
          (by exact hv) (by exact hr) _), txOwedAck_of_sent, ← hsink]
        subst hun hre hack
        simp [hq, hv, State.answering, State.wireBytes, State.packSeq, State.frameCrc, ← List.drop_one]

/-! ### A failed allocation (R443) -/

theorem txFrame_of_failed_alloc {s : State} {draws : List Bool} (h : s.allocDraws = false :: draws) (u : QUnit)
    (reliable : Bool) :
    txFrame u reliable s = .abandoned { s with faults := s.faults ++ [.alloc], allocDraws := draws } := by
  rw [txFrame, if_neg (Bool.eq_false_iff.mp (allocOk_of_cons_false h)), raiseFault_alloc_dropAllocDraw h]

theorem exec_pwrSendWakeup_of_inService {s : State} (h : s.inService) :
    exec .pwrSendWakeup s = (sendWakeup s).outcome .done :=
  if_pos (bcspLive_of_inService h)

/-- The unit whose frame fails is back at the front of `unrel_q`. -/
theorem txUnreliable_of_failed_alloc {s : State} {draws : List Bool} (h : s.allocDraws = false :: draws)
    (hs : s.unrelSendable = true) :
    txUnreliable s = .on { s with faults := s.faults ++ [.alloc], allocDraws := draws } false := by
  obtain ⟨u, q, hq, hg⟩ := unrelQ_of_sendable hs
  simp only [txUnreliable, hq, if_pos hg, txFrame_of_failed_alloc (s := { s with unrelQ := q }) h]

/-- The unit whose frame fails is back at the front of `rel_q`. -/
theorem txReliable_of_failed_alloc {s : State} {draws : List Bool} (h : s.allocDraws = false :: draws)
    (hr : s.relReady = true) (hg : s.gateOpen = true) (sent : Bool) :
    txReliable s sent = .on { s with faults := s.faults ++ [.alloc], allocDraws := draws } sent := by
  obtain ⟨u, q, hq⟩ := relQ_of_ready hr
  simp only [txReliable, hr, hg, Bool.and_self, if_true, hq, txFrame_of_failed_alloc (s := { s with relQ := q }) h]

theorem txOwedAck_of_failed_alloc {s : State} {draws : List Bool} (h : s.allocDraws = false :: draws)
    (ha : s.ackRequired = true) (hg : s.gateOpen = true) :
    txOwedAck s false = .go { s with faults := s.faults ++ [.alloc], allocDraws := draws } := by
  simp only [txOwedAck, ha, hg, Bool.not_false, Bool.and_true, if_true, txFrame_of_failed_alloc h]

/-- An iteration whose only frame fails leaves the report and the used draw. -/
theorem txStep_of_failed_alloc {s : State} {draws : List Bool} (h : s.allocDraws = false :: draws)
    (hcase : (s.unrelSendable = true ∧ s.relReady = false ∧ s.ackRequired = false) ∨
      (s.unrelQ = [] ∧ s.relReady = true ∧ s.gateOpen = true ∧ s.ackRequired = false) ∨
      (s.unrelQ = [] ∧ s.relReady = false ∧ s.gateOpen = true ∧ s.ackRequired = true)) :
    txStep s = .go { s with faults := s.faults ++ [.alloc], allocDraws := draws } := by
  have hnone : s.unrelQ = [] → s.unrelSendable = false := fun hq => by rw [State.unrelSendable, hq]
  rcases hcase with ⟨hs, hr, ha⟩ | ⟨hq, hr, hg, ha⟩ | ⟨hq, hr, hg, ha⟩
  · have hidle : (s.relReady && s.gateOpen) = false := by rw [hr, Bool.false_and]
    exact (txStep_of_parts (work_of_sendable hs) (txUnreliable_of_failed_alloc h hs)
      (txReliable_of_not_ready (by exact hidle) _)).trans (txOwedAck_of_not_owed (by exact ha) _)
  · exact (txStep_of_parts (work_of_ready hr) (txUnreliable_of_not_sendable (hnone hq))
      (txReliable_of_failed_alloc h hr hg _)).trans (txOwedAck_of_not_owed (by exact ha) _)
  · exact (txStep_of_parts (work_of_owed ha) (txUnreliable_of_not_sendable (hnone hq))
      (txReliable_of_not_ready (by rw [hr, Bool.false_and]) _)).trans (txOwedAck_of_failed_alloc h ha hg)

/-- Each of the three cases lets TX.STEP run (R272). -/
theorem sendable_of_failed_case {s : State}
    (hcase : (s.unrelSendable = true ∧ s.relReady = false ∧ s.ackRequired = false) ∨
      (s.unrelQ = [] ∧ s.relReady = true ∧ s.gateOpen = true ∧ s.ackRequired = false) ∨
      (s.unrelQ = [] ∧ s.relReady = false ∧ s.gateOpen = true ∧ s.ackRequired = true)) : s.sendable = true := by
  rcases hcase with ⟨hs, -, -⟩ | ⟨-, hr, hg, -⟩ | ⟨-, -, hg, ha⟩
  · rw [State.sendable, hs, Bool.true_or]
  · rw [State.sendable, hr, hg, Bool.true_or, Bool.and_true, Bool.or_true]
  · rw [State.sendable, ha, hg, Bool.or_true, Bool.and_true, Bool.or_true]

/-! ### A WRITE fault (R397, R446, R447) -/

/-- The loop over answers that take a part of the run and do not exceed the limit. -/
theorem sinkLoop_append {limit : Nat} {pre : List SinkAnswer} (ds : List SinkAnswer) {rest : Bytes} (out : Bytes)
    {errors : Nat} (hpre : .stalled ∉ pre) (herr : errors + pre.count .hardError ≤ limit)
    (htaken : (pre.map SinkAnswer.taken).sum < rest.length) :
    sinkLoop limit (pre ++ ds) rest out errors =
      sinkLoop limit ds (rest.drop (pre.map SinkAnswer.taken).sum) (out ++ rest.take (pre.map SinkAnswer.taken).sum)
        (errors + pre.count .hardError) := by
  induction pre generalizing rest out errors with
  | nil => rw [List.map_nil, List.sum_nil, List.take_zero, List.append_nil]; rfl
  | cons d pre ih =>
    obtain ⟨hd, hrest⟩ := List.ne_and_not_mem_of_not_mem_cons hpre
    obtain ⟨b, bs, rfl⟩ := List.exists_cons_of_ne_nil (List.length_pos_iff.mp (Nat.zero_lt_of_lt htaken))
    cases d with
    | accepted k =>
      rw [List.count_cons_of_ne (SinkAnswer.noConfusion)] at herr ⊢
      rw [List.map_cons, List.sum_cons] at htaken ⊢
      have hstep := ih (rest := (b :: bs).drop k) (out ++ (b :: bs).take k) hrest herr
        (by rw [List.length_drop]; exact Nat.lt_sub_of_add_lt (Nat.add_comm _ k ▸ htaken))
      rw [List.drop_drop, List.append_assoc, ← List.take_add] at hstep
      exact hstep
    | hardError =>
      rw [List.count_cons_self] at herr ⊢
      have hlim : ¬ limit < errors + 1 := by omega
      rw [List.map_cons, List.sum_cons, SinkAnswer.taken, Nat.zero_add] at htaken ⊢
      have hstep := ih out hrest (errors := errors + 1) (by omega) htaken
      rw [Nat.add_right_comm, Nat.add_assoc errors] at hstep
      exact (if_neg hlim).trans hstep
    | stalled => exact absurd rfl hd

/-- One hard error more than the limit (R397). -/
theorem sinkLoop_fails {pre post : List SinkAnswer} {rest : Bytes} (hpre : .stalled ∉ pre)
    (htaken : (pre.map SinkAnswer.taken).sum < rest.length) :
    sinkLoop (pre.count .hardError) (pre ++ .hardError :: post) rest [] 0 =
      .failed (rest.take (pre.map SinkAnswer.taken).sum) post := by
  rw [sinkLoop_append _ [] hpre (Nat.zero_add _).le htaken]
  obtain ⟨b, bs, hb⟩ := List.exists_cons_of_ne_nil (List.ne_nil_of_length_pos
    (List.length_drop ▸ Nat.sub_pos_of_lt htaken : 0 < (rest.drop (pre.map SinkAnswer.taken).sum).length))
  rw [hb]
  exact if_pos (Nat.lt_succ_of_le (Nat.zero_add _).ge)

/-- The frame is numbered and lost, and the block halts. -/
theorem txFrame_of_hardErrors {s : State} {post : List SinkAnswer} (hds : s.allocsSucceed)
    (hchain : sendsToSink s.params.chain .bcsp = true)
    (hsink : s.sinkDraws = List.replicate (s.params.writeRetryLimit + 1) .hardError ++ post) (u : QUnit)
    (reliable : Bool) :
    txFrame u reliable s = .stop { s with
      seq := if reliable then s.seq + 1 else s.seq
      allocDraws := s.allocDraws.tail
      sinkDraws := post
      faults := s.faults ++ [.write 0]
      halted := true } := by
  have htaken : ((List.replicate s.params.writeRetryLimit .hardError).map SinkAnswer.taken).sum = 0 := by
    rw [List.map_replicate, List.sum_replicate]
    exact Nat.mul_zero _
  have hloop := sinkLoop_fails (pre := List.replicate s.params.writeRetryLimit .hardError) (post := post)
    (rest := s.wireBytes u reliable) (fun hm => SinkAnswer.noConfusion (List.eq_of_mem_replicate hm))
    (htaken.trans_lt (Nat.succ_pos _))
  rw [List.count_replicate_self, htaken, List.append_cons, ← List.replicate_succ', ← hsink] at hloop
  have hbumped : sinkLoop (s.dropAllocDraw.bumpSeq reliable).params.writeRetryLimit
      (s.dropAllocDraw.bumpSeq reliable).sinkDraws (s.wireBytes u reliable) [] 0 = .failed [] post := hloop
  have hwrite : writeSink (s.wireBytes u reliable) (s.dropAllocDraw.bumpSeq reliable) =
      .stop (raiseFault (.write 0) { s.dropAllocDraw.bumpSeq reliable with
        phyTx := (s.dropAllocDraw.bumpSeq reliable).phyTx ++ [], sinkDraws := post }) := by
    rw [writeSink, hbumped]
    rfl
  have hsend : sendBytesFrom .bcsp (s.wireBytes u reliable) (s.dropAllocDraw.bumpSeq reliable) =
      writeSink (s.wireBytes u reliable) (s.dropAllocDraw.bumpSeq reliable) := if_pos hchain
  rw [txFrame, if_pos (allocOk_of_allocsSucceed hds), hsend, hwrite, List.append_nil, raiseFault_of_fatal rfl]
  rfl

theorem txStep_of_unreliable_stop {s t : State} (hw : s.work = true) (h : txUnreliable s = .stop t) :
    txStep s = .stop t := by
  simp only [txStep, if_pos hw, h]

theorem txStep_of_reliable_stop {s t v : State} {sent : Bool} (hw : s.work = true) (hun : txUnreliable s = .on v sent)
    (h : txReliable v sent = .stop t) : txStep s = .stop t := by
  simp only [txStep, if_pos hw, hun, h]

/-- Settles O23: the abandoned frame in each place it is sent from, then the lost one in each queue. -/
theorem failedSendsKeepOrLoseTheUnit : Obligations.FailedSendsKeepOrLoseTheUnit := by
  refine ⟨fun s draws h hdraws => ⟨fun u reliable hlen => ?frame, ?ackFrame, ?wakeup, fun hws hcase => ?step⟩,
    fun s u q post he hds hchain hsink => ⟨fun hun hq hr hg => ?losesReliable, fun hq hs => ?losesUnreliable⟩⟩
  case frame =>
    rw [exec_txFrame_of_inService reliable h hlen, txFrame_of_failed_alloc hdraws]
    rfl
  case ackFrame =>
    rw [exec_txAckFrame_of_inService h, txFrame_of_failed_alloc hdraws]
    rfl
  case wakeup =>
    rw [exec_pwrSendWakeup_of_inService h, sendWakeup, txFrame_of_failed_alloc hdraws]
    rfl
  case step =>
    have he : s.txStepEnabled = true := (txStepEnabled_iff s).mpr ⟨h, hws, .inr (sendable_of_failed_case hcase)⟩
    rw [exec_txStep_of_enabled he, txStep_of_failed_alloc hdraws hcase]
    rfl
  case losesReliable =>
    have hnone : s.unrelSendable = false := by rw [State.unrelSendable, hun]
    have hstop := txFrame_of_hardErrors (s := { s with relQ := q }) hds hchain hsink u true
    rw [exec_txStep_of_enabled he, txStep_of_reliable_stop (work_of_ready hr) (txUnreliable_of_not_sendable hnone)
      (by simp only [txReliable, hr, hg, Bool.and_self, if_true, hq, hstop]; rfl)]
    rfl
  case losesUnreliable =>
    obtain ⟨v, r, hv, hg⟩ := unrelQ_of_sendable hs
    obtain ⟨rfl, rfl⟩ := List.cons.inj (hq.symm.trans hv)
    have hstop := txFrame_of_hardErrors (s := { s with unrelQ := q }) hds hchain hsink u false
    rw [exec_txStep_of_enabled he, txStep_of_unreliable_stop (work_of_sendable hs)
      (by simp only [txUnreliable, hq, if_pos hg, hstop]; rfl)]
    rfl

end Sys2Proof.Machine
end

section
/-! RUN: each iteration leaves less to do, so that the count of turns in the model's loop never shows
(30_encoding.md R147, 43_arq.md R272). -/

namespace Sys2Proof.Machine

/-! ### Nothing of the transmit path reads the answer -/

/-- The same end with another answer. -/
def Flow.answering (f : Flow) (a : Answer) : Flow :=
  match f with
  | .go s => .go (s.answering a)
  | .abandoned s => .abandoned (s.answering a)
  | .stop s => .stop (s.answering a)
  | .stall => .stall

def Iteration.answering (f : Iteration) (a : Answer) : Iteration :=
  match f with
  | .on s sent => .on (s.answering a) sent
  | .stop s => .stop (s.answering a)
  | .stall => .stall

theorem outcome_answering (f : Flow) (a b : Answer) : (f.answering a).outcome b = f.outcome b := by
  cases f <;> rfl

theorem writeSink_answering (bs : Bytes) (s : State) (a : Answer) :
    writeSink bs (s.answering a) = (writeSink bs s).answering a := by
  have hloop : sinkLoop (s.answering a).params.writeRetryLimit (s.answering a).sinkDraws bs [] 0 =
      sinkLoop s.params.writeRetryLimit s.sinkDraws bs [] 0 := rfl
  rw [writeSink, writeSink, hloop]
  cases sinkLoop s.params.writeRetryLimit s.sinkDraws bs [] 0 <;> rfl

theorem sendBytesFrom_answering (k : NodeKind) (bs : Bytes) (s : State) (a : Answer) :
    sendBytesFrom k bs (s.answering a) = (sendBytesFrom k bs s).answering a := by
  have hparams : (s.answering a).params = s.params := rfl
  rw [sendBytesFrom, sendBytesFrom, hparams]
  split
  · exact writeSink_answering bs s a
  · rfl

theorem txFrame_answering (u : QUnit) (reliable : Bool) (s : State) (a : Answer) :
    txFrame u reliable (s.answering a) = (txFrame u reliable s).answering a := by
  have halloc : allocOk (s.answering a) = allocOk s := rfl
  have hsend : sendBytesFrom .bcsp ((s.answering a).wireBytes u reliable)
      ((s.answering a).dropAllocDraw.bumpSeq reliable) =
      (sendBytesFrom .bcsp (s.wireBytes u reliable) (s.dropAllocDraw.bumpSeq reliable)).answering a :=
    sendBytesFrom_answering .bcsp _ (s.dropAllocDraw.bumpSeq reliable) a
  rw [txFrame, txFrame, halloc, hsend]
  split
  · cases sendBytesFrom .bcsp (s.wireBytes u reliable) (s.dropAllocDraw.bumpSeq reliable) <;> rfl
  · rfl

theorem txUnreliable_answering (s : State) (a : Answer) :
    txUnreliable (s.answering a) = (txUnreliable s).answering a := by
  rcases txUnreliable_cases s with ⟨hs, e⟩ | ⟨u, q, hq, hg, hsend⟩
  · rw [e]
    exact txUnreliable_of_not_sendable hs
  · have hq' : (s.answering a).unrelQ = u :: q := hq
    have hg' : (isPower u || (s.answering a).gateOpen) = true := hg
    have hframe := txFrame_answering u false { s with unrelQ := q } a
    rcases hsend with ⟨t, ht, e⟩ | ⟨t, ht, e⟩ | ⟨t, ht, e⟩ | ⟨ht, e⟩ <;>
      (rw [ht] at hframe; rw [e]; simp only [txUnreliable, hq', if_pos hg']; exact hframe ▸ rfl)

theorem txReliable_answering (s : State) (sent : Bool) (a : Answer) :
    txReliable (s.answering a) sent = (txReliable s sent).answering a := by
  rcases txReliable_cases s sent with ⟨hs, e⟩ | ⟨u, q, hq, hg, hsend⟩
  · rw [e]
    exact txReliable_of_not_ready (by exact hs) sent
  · have hq' : (s.answering a).relQ = u :: q := hq
    have hg' : ((s.answering a).relReady && (s.answering a).gateOpen) = true := hg
    have hframe := txFrame_answering u true { s with relQ := q } a
    rcases hsend with ⟨t, ht, e⟩ | ⟨t, ht, e⟩ | ⟨t, ht, e⟩ | ⟨ht, e⟩ <;>
      (rw [ht] at hframe; rw [e]; simp only [txReliable, hq', if_pos hg']; exact hframe ▸ rfl)

theorem txOwedAck_answering (s : State) (sent : Bool) (a : Answer) :
    txOwedAck (s.answering a) sent = (txOwedAck s sent).answering a := by
  have hcond : (!sent && (s.answering a).ackRequired && (s.answering a).gateOpen) =
      (!sent && s.ackRequired && s.gateOpen) := rfl
  rw [txOwedAck, txOwedAck, hcond, txFrame_answering]
  split
  · cases txFrame ackUnit false s <;> rfl
  · rfl

theorem txStep_answering (s : State) (a : Answer) : txStep (s.answering a) = (txStep s).answering a := by
  have hwork : (s.answering a).work = s.work := rfl
  rw [txStep, txStep, hwork, txUnreliable_answering]
  split
  · cases txUnreliable s with
    | on t sent =>
      simp only [Iteration.answering, txReliable_answering]
      cases txReliable t sent with
      | on t' sent' => exact txOwedAck_answering t' sent' a
      | stop t' => rfl
      | stall => rfl
    | stop t => rfl
    | stall => rfl
  · rfl

/-! ### RUN's condition -/

/-- RUN goes on here: TX.STEP is enabled, the gate is open and TX.WAKE is not needed (R147). -/
def State.runnable (s : State) : Bool := s.txStepEnabled && s.gateOpen && !s.txWakeEnabled

theorem runnable_iff (s : State) :
    s.runnable = true ↔ s.txStepEnabled = true ∧ s.gateIsOpen ∧ s.txWakeEnabled = false := by
  rw [State.runnable, Bool.and_eq_true, Bool.and_eq_true, Bool.not_eq_true', gateOpen_iff, and_assoc]

theorem not_runnable_iff (s : State) :
    s.runnable = false ↔ s.txStepEnabled = false ∨ ¬ s.gateIsOpen ∨ s.txWakeEnabled = true := by
  rw [← Bool.not_eq_true, runnable_iff, not_and_or, not_and_or, Bool.not_eq_true, Bool.not_eq_false]

theorem runLoop_of_not_runnable {s : State} (h : s.runnable = false) (n : Nat) : runLoop n s = .go s := by
  cases n with
  | zero => rfl
  | succ n => exact if_neg (Bool.eq_false_iff.mp h)

theorem runLoop_succ_of_runnable {s : State} (h : s.runnable = true) (n : Nat) :
    runLoop (n + 1) s = (txStep s).andThen (runLoop n) := if_pos h

theorem runLoop_answering (n : Nat) (s : State) (a : Answer) :
    runLoop n (s.answering a) = (runLoop n s).answering a := by
  induction n generalizing s with
  | zero => rfl
  | succ n ih =>
    cases hr : s.runnable with
    | false => rw [runLoop_of_not_runnable hr, runLoop_of_not_runnable (by exact hr)]; rfl
    | true =>
      rw [runLoop_succ_of_runnable hr, runLoop_succ_of_runnable (by exact hr), txStep_answering]
      cases txStep s with
      | go t => exact ih t
      | abandoned t => rfl
      | stop t => rfl
      | stall => rfl

theorem runnable_of_halted {s : State} (h : s.halted = true) : s.runnable = false := by
  refine (not_runnable_iff s).mpr (.inl (Bool.eq_false_iff.mpr fun he => ?_))
  obtain ⟨-, hh, -⟩ := ((txStepEnabled_iff s).mp he).1
  exact Bool.false_ne_true (hh.symm.trans h)

/-! ### Every iteration leaves less to do -/

/-- What is left for the worker: units waiting, answers of the allocator, an owed acknowledgement, and its own end. -/
def State.pending (s : State) : Nat :=
  s.unrelQ.length + s.relQ.length + s.allocDraws.length + s.ackRequired.toNat + s.workerScheduled.toNat

theorem pending_lt_runBound (s : State) : s.pending < s.runBound := by
  have ha := s.ackRequired.toNat_le
  have hw := s.workerScheduled.toNat_le
  simp only [State.pending, State.runBound]
  omega

theorem pending_of_txFrame_go {u : QUnit} {r : Bool} {s t : State} (h : txFrame u r s = .go t) :
    t.pending + s.ackRequired.toNat ≤ s.pending := by
  have k : Sent s t := txFrame_sent (u := u) (r := r) (by rw [h]; rfl)
  obtain ⟨-, -, hack, hdraws⟩ := txFrame_go h
  simp only [State.pending, k.unrelQ, k.relQ, k.workerScheduled, hack, hdraws, Bool.toNat_false, List.length_tail]
  omega

/-- An abandoned frame uses a draw up and leaves the rest of the worker's load as it was (R443). -/
theorem load_of_txFrame_abandoned {u : QUnit} {r : Bool} {s t : State} (h : txFrame u r s = .abandoned t) :
    t.allocDraws.length + 1 = s.allocDraws.length ∧ t.unrelQ = s.unrelQ ∧ t.relQ = s.relQ ∧
      t.ackRequired = s.ackRequired ∧ t.workerScheduled = s.workerScheduled ∧ t.halted = s.halted := by
  obtain ⟨ha, rfl⟩ := txFrame_abandoned h
  exact ⟨dropAllocDraw_length ha, rfl, rfl, rfl, rfl, Bool.or_false _⟩

theorem txUnreliable_pending {s t : State} {sent : Bool} (h : txUnreliable s = .on t sent) :
    t.halted = s.halted ∧ t.pending ≤ s.pending ∧ (s.unrelSendable = true → t.pending < s.pending) := by
  rcases txUnreliable_cases s with ⟨hn, e⟩ | ⟨u, q, hq, -, ⟨y, hy, e⟩ | ⟨y, hy, e⟩ | ⟨y, hy, e⟩ | ⟨hy, e⟩⟩ <;>
    rw [e] at h <;> cases h
  case inl => exact ⟨rfl, le_rfl, fun hs => absurd (hn.symm.trans hs) Bool.false_ne_true⟩
  · have hlt : t.pending < s.pending := by
      have hle := pending_of_txFrame_go hy
      simp only [State.pending, hq, List.length_cons] at hle ⊢
      omega
    exact ⟨(txFrame_go hy).2.1, hlt.le, fun _ => hlt⟩
  · obtain ⟨hlen, -, hrel, hack, hsched, hhalt⟩ := load_of_txFrame_abandoned hy
    have hlt : State.pending { y with unrelQ := u :: q } < s.pending := by
      replace hlen : y.allocDraws.length + 1 = s.allocDraws.length := hlen
      simp only [State.pending, hq, hrel, hsched, hack]
      omega
    exact ⟨hhalt, hlt.le, fun _ => hlt⟩

theorem txReliable_pending {s t : State} {sent sent' : Bool} (h : txReliable s sent = .on t sent') :
    t.halted = s.halted ∧ t.pending ≤ s.pending ∧
      ((s.relReady && s.gateOpen) = true → t.pending < s.pending) := by
  rcases txReliable_cases s sent with ⟨hn, e⟩ | ⟨u, q, hq, -, ⟨y, hy, e⟩ | ⟨y, hy, e⟩ | ⟨y, hy, e⟩ | ⟨hy, e⟩⟩ <;>
    rw [e] at h <;> cases h
  case inl => exact ⟨rfl, le_rfl, fun hs => absurd (hn.symm.trans hs) Bool.false_ne_true⟩
  · have hlt : y.pending < s.pending := by
      have hle := pending_of_txFrame_go hy
      simp only [State.pending, hq, List.length_cons] at hle ⊢
      omega
    exact ⟨(txFrame_go hy).2.1, hlt.le, fun _ => hlt⟩
  · obtain ⟨hlen, hunrel, -, hack, hsched, hhalt⟩ := load_of_txFrame_abandoned hy
    have hlt : State.pending { y with relQ := u :: q } < s.pending := by
      replace hlen : y.allocDraws.length + 1 = s.allocDraws.length := hlen
      simp only [State.pending, hq, hunrel, hsched, hack]
      omega
    exact ⟨hhalt, hlt.le, fun _ => hlt⟩

theorem txOwedAck_pending {s t : State} {sent : Bool} (h : txOwedAck s sent = .go t) :
    t.halted = s.halted ∧ t.pending ≤ s.pending ∧
      ((!sent && s.ackRequired && s.gateOpen) = true → t.pending < s.pending) := by
  rcases txOwedAck_cases s sent with ⟨hn, e⟩ | ⟨hg, ⟨y, hy, e⟩ | ⟨y, hy, e⟩ | ⟨y, hy, e⟩ | ⟨hy, e⟩⟩ <;>
    rw [e] at h <;> cases h
  case inl => exact ⟨rfl, le_rfl, fun hs => absurd (hn.symm.trans hs) Bool.false_ne_true⟩
  · simp only [Bool.and_eq_true] at hg
    have hle := pending_of_txFrame_go hy
    rw [hg.1.2, Bool.toNat_true] at hle
    exact ⟨(txFrame_go hy).2.1, by omega, fun _ => by omega⟩
  · obtain ⟨hlen, hunrel, hrel, hack, hsched, hhalt⟩ := load_of_txFrame_abandoned hy
    have hlt : t.pending < s.pending := by
      simp only [State.pending, hunrel, hrel, hsched, hack]
      omega
    exact ⟨hhalt, hlt.le, fun _ => hlt⟩

/-- An iteration that goes on uses up a unit, a failed allocation or the owed acknowledgement, or ends the worker. -/
theorem txStep_pending {s t : State} (he : s.txStepEnabled = true) (h : txStep s = .go t) :
    t.halted = s.halted ∧ t.pending < s.pending := by
  rcases txStep_cases s with ⟨-, e⟩ | ⟨hw, ⟨v, -, e⟩ | ⟨-, e⟩ | ⟨v, sent, h1, ⟨w, -, e⟩ | ⟨-, e⟩ | ⟨w, sent', h2, e⟩⟩⟩ <;>
    rw [e] at h
  · cases h
    have hs : s.workerScheduled = true := ((txStepEnabled_iff s).mp he).2.1
    refine ⟨rfl, ?_⟩
    simp only [State.pending, hs, Bool.toNat_true, Bool.toNat_false]
    exact Nat.lt_succ_self _
  · cases h
  · cases h
  · cases h
  · cases h
  · obtain ⟨hv, hle1, hlt1⟩ := txUnreliable_pending h1
    obtain ⟨hw2, hle2, hlt2⟩ := txReliable_pending h2
    obtain ⟨hw3, hle3, hlt3⟩ := txOwedAck_pending h
    refine ⟨hw3.trans (hw2.trans hv), ?_⟩
    cases hu : s.unrelSendable with
    | true => exact hle3.trans_lt (hle2.trans_lt (hlt1 hu))
    | false =>
      rw [txUnreliable_of_not_sendable hu] at h1
      cases h1
      cases hr : s.relReady && s.gateOpen with
      | true => exact hle3.trans_lt (hlt2 hr)
      | false =>
        rw [txReliable_of_not_ready hr] at h2
        cases h2
        obtain ⟨ha, hg⟩ := owed_of_nothing_else he hw hu hr
        exact hlt3 (by rw [ha, hg]; rfl)

/-! ### How an iteration ends -/

theorem txFrame_stalls {u : QUnit} {r : Bool} {s : State} (h : txFrame u r s = .stall) : .stalled ∈ s.sinkDraws := by
  rcases txFrame_cases u r s with ⟨-, e⟩ | ⟨-, -, e⟩ | ⟨-, -, ds, -, e⟩ | ⟨-, -, n, ds, -, -, e⟩ | ⟨-, hm⟩
  case inr.inr.inr.inr => exact hm
  all_goals rw [e] at h; cases h

theorem txUnreliable_ends (s : State) :
    (∃ t sent, txUnreliable s = .on t sent) ∨ (∃ t, txUnreliable s = .stop t ∧ t.halted = true) ∨
      (txUnreliable s = .stall ∧ .stalled ∈ s.sinkDraws) := by
  rcases txUnreliable_cases s with ⟨-, e⟩ | ⟨u, q, -, -, ⟨y, -, e⟩ | ⟨y, -, e⟩ | ⟨y, hy, e⟩ | ⟨hy, e⟩⟩
  · exact .inl ⟨s, _, e⟩
  · exact .inl ⟨_, _, e⟩
  · exact .inl ⟨_, _, e⟩
  · exact .inr (.inl ⟨y, e, (txFrame_stop hy).2⟩)
  · exact .inr (.inr ⟨e, txFrame_stalls (s := { s with unrelQ := q }) hy⟩)

theorem txReliable_ends (s : State) (sent : Bool) :
    (∃ t sent', txReliable s sent = .on t sent') ∨ (∃ t, txReliable s sent = .stop t ∧ t.halted = true) ∨
      (txReliable s sent = .stall ∧ .stalled ∈ s.sinkDraws) := by
  rcases txReliable_cases s sent with ⟨-, e⟩ | ⟨u, q, -, -, ⟨y, -, e⟩ | ⟨y, -, e⟩ | ⟨y, hy, e⟩ | ⟨hy, e⟩⟩
  · exact .inl ⟨s, _, e⟩
  · exact .inl ⟨_, _, e⟩
  · exact .inl ⟨_, _, e⟩
  · exact .inr (.inl ⟨y, e, (txFrame_stop hy).2⟩)
  · exact .inr (.inr ⟨e, txFrame_stalls (s := { s with relQ := q }) hy⟩)

theorem txOwedAck_ends (s : State) (sent : Bool) :
    (∃ t, txOwedAck s sent = .go t) ∨ (∃ t, txOwedAck s sent = .stop t ∧ t.halted = true) ∨
      (txOwedAck s sent = .stall ∧ .stalled ∈ s.sinkDraws) := by
  rcases txOwedAck_cases s sent with ⟨-, e⟩ | ⟨-, ⟨y, -, e⟩ | ⟨y, -, e⟩ | ⟨y, hy, e⟩ | ⟨hy, e⟩⟩
  · exact .inl ⟨s, e⟩
  · exact .inl ⟨_, e⟩
  · exact .inl ⟨_, e⟩
  · exact .inr (.inl ⟨y, e, (txFrame_stop hy).2⟩)
  · exact .inr (.inr ⟨e, txFrame_stalls hy⟩)

theorem txStep_of_unreliable_stall {s : State} (hw : s.work = true) (h : txUnreliable s = .stall) :
    txStep s = .stall := by
  simp only [txStep, if_pos hw, h]

theorem txStep_of_reliable_stall {s v : State} {sent : Bool} (hw : s.work = true) (hun : txUnreliable s = .on v sent)
    (h : txReliable v sent = .stall) : txStep s = .stall := by
  simp only [txStep, if_pos hw, hun, h]

/-- An iteration goes on, halts the block (R446), or meets a sink that stalls; it is never abandoned (R443). -/
theorem txStep_ends (s : State) :
    (∃ t, txStep s = .go t) ∨ (∃ t, txStep s = .stop t ∧ t.halted = true) ∨
      (txStep s = .stall ∧ .stalled ∈ s.sinkDraws) := by
  cases hw : s.work with
  | false => exact .inl ⟨_, txStep_of_no_work hw⟩
  | true =>
    rcases txUnreliable_ends s with ⟨t, sent, h1⟩ | ⟨t, h1, hh⟩ | ⟨h1, hm⟩
    case inr.inl => exact .inr (.inl ⟨t, txStep_of_unreliable_stop hw h1, hh⟩)
    case inr.inr => exact .inr (.inr ⟨txStep_of_unreliable_stall hw h1, hm⟩)
    have k1 : Transmitted s t := txUnreliable_transmitted (by rw [h1]; rfl)
    rcases txReliable_ends t sent with ⟨t', sent', h2⟩ | ⟨t', h2, hh⟩ | ⟨h2, hm⟩
    case inr.inl => exact .inr (.inl ⟨t', txStep_of_reliable_stop hw h1 h2, hh⟩)
    case inr.inr => exact .inr (.inr ⟨txStep_of_reliable_stall hw h1 h2, k1.sinkDraws.mem hm⟩)
    have k2 : Transmitted t t' := txReliable_transmitted (b := sent) (by rw [h2]; rfl)
    rw [txStep_of_parts hw h1 h2]
    rcases txOwedAck_ends t' sent' with h3 | h3 | ⟨h3, hm⟩
    · exact .inl h3
    · exact .inr (.inl h3)
    · exact .inr (.inr ⟨h3, k1.sinkDraws.mem (k2.sinkDraws.mem hm)⟩)

/-! ### RUN -/

/-- The count of turns does not show where it is above what is left to do. -/
theorem runLoop_count {n m : Nat} {s : State} (hn : s.pending < n) (hm : s.pending < m) :
    runLoop n s = runLoop m s := by
  induction n generalizing m s with
  | zero => omega
  | succ n ih =>
    obtain ⟨m, rfl⟩ : ∃ k, m = k + 1 := ⟨m - 1, by omega⟩
    cases hr : s.runnable with
    | false => rw [runLoop_of_not_runnable hr, runLoop_of_not_runnable hr]
    | true =>
      rw [runLoop_succ_of_runnable hr, runLoop_succ_of_runnable hr]
      cases e : txStep s with
      | go t =>
        have hlt := (txStep_pending ((runnable_iff s).mp hr).1 e).2
        exact ih (by omega) (by omega)
      | abandoned t => rfl
      | stop t => rfl
      | stall => rfl

/-- Unless the sink stalls, RUN comes to a state in which it does not go on. -/
theorem runLoop_ends {n : Nat} {s : State} (hn : s.pending < n) (hsink : .stalled ∉ s.sinkDraws) :
    ∃ t, (runLoop n s = .go t ∨ runLoop n s = .stop t) ∧ t.runnable = false := by
  induction n generalizing s with
  | zero => omega
  | succ n ih =>
    cases hr : s.runnable with
    | false => exact ⟨s, .inl (runLoop_of_not_runnable hr _), hr⟩
    | true =>
      rw [runLoop_succ_of_runnable hr]
      rcases txStep_ends s with ⟨t, e⟩ | ⟨t, e, hh⟩ | ⟨-, hm⟩
      · have hlt := (txStep_pending ((runnable_iff s).mp hr).1 e).2
        have k : Transmitted s t := txStep_transmitted (by rw [e]; rfl)
        rw [e, Flow.andThen_go]
        exact ih (by omega) fun hm => hsink (k.sinkDraws.mem hm)
      · rw [e, Flow.andThen_stop]
        exact ⟨t, .inr rfl, runnable_of_halted hh⟩
      · exact absurd hm hsink

theorem exec_run_of_inService {s : State} (h : s.inService) :
    exec .run s = (runLoop s.runBound s).outcome .done :=
  if_pos (bcspLive_of_inService h)

/-- Settles O24: by the count of turns, of which RUN never needs more than there is left to do. -/
theorem runRepeatsTxStepAndEnds : Obligations.RunRepeatsTxStepAndEnds := by
  refine fun s h => ⟨fun hidle => ?idle, fun t he hg hwk hstep => ?again, fun hsink => ?ends⟩
  case idle =>
    rw [exec_run_of_inService h, runLoop_of_not_runnable ((not_runnable_iff s).mpr hidle)]
    rfl
  case again =>
    have hr := (runnable_iff s).mpr ⟨he, hg, hwk⟩
    have hbound : s.runBound = (s.runBound - 1) + 1 := rfl
    rw [exec_run_of_inService h, hbound, runLoop_succ_of_runnable hr]
    rw [exec_txStep_of_enabled he] at hstep
    rcases txStep_ends s with ⟨u, e⟩ | ⟨u, e, hh⟩ | ⟨e, -⟩
    · obtain ⟨hhalt, hlt⟩ := txStep_pending he e
      have hlive : u.halted = false := hhalt.trans h.running
      have hbound := pending_lt_runBound s
      have k : Transmitted s u := txStep_transmitted (by rw [e]; rfl)
      rw [e] at hstep
      cases hstep
      refine ⟨fun hh => absurd (hlive.symm.trans hh) Bool.false_ne_true, fun _ => ?_⟩
      have hu : (u.answering .done).inService := ⟨k.alive.trans h.alive, hlive, k.params.symm ▸ h.node⟩
      rw [exec_run_of_inService hu, runLoop_answering, outcome_answering, e,
        Flow.andThen_go, runLoop_count (by omega) (pending_lt_runBound u)]
      rfl
    · rw [e] at hstep ⊢
      cases hstep
      exact ⟨fun _ => rfl, fun hlive => absurd (hlive.symm.trans hh) Bool.false_ne_true⟩
    · rw [e] at hstep
      cases hstep
  case ends =>
    obtain ⟨t, e, hidle⟩ := runLoop_ends (pending_lt_runBound s) hsink
    rw [exec_run_of_inService h]
    rcases e with e | e
    · exact ⟨t.answering .done, by rw [e]; rfl, (not_runnable_iff _).mp hidle⟩
    · exact ⟨t.answering .faulted, by rw [e]; rfl, (not_runnable_iff _).mp hidle⟩

end Sys2Proof.Machine
end

section
/-! Acknowledgement, delivery and the timers (43_arq.md R279 to R282, 45_power_fsm.md R365, R369). -/

namespace Sys2Proof.Machine

/-! ### Acknowledgement -/

theorem ackDistance_eq (s : State) (a : Count3) : s.ackDistance a = (a.toNat + 8 - s.rack.toNat) % 8 := by
  rw [State.ackDistance, BitVec.toNat_sub]
  omega

theorem ackDistance_eq_zero_iff (s : State) (a : Count3) : s.ackDistance a = 0 ↔ a = s.rack := by
  rw [State.ackDistance, ← BitVec.toNat_inj.trans sub_eq_zero]
  rfl

theorem rxAck_of_all {a : Count3} {s : State} (h : a = s.seq) :
    rxAck a s = (acknowledge s.sentQ.length a s).cancelRtx := if_pos h

theorem rxAck_of_part {a : Count3} {s : State} (h : a ≠ s.seq) (hd : s.ackDistance a ≤ s.sentQ.length) :
    rxAck a s = acknowledge (s.ackDistance a) a s := (if_neg h).trans (if_pos hd)

theorem rxAck_of_beyond {a : Count3} {s : State} (h : a ≠ s.seq) (hd : s.sentQ.length < s.ackDistance a) :
    rxAck a s = s := (if_neg h).trans (if_neg (Nat.not_le.mpr hd))

/-- Some progress gives credit back, clears the retry count and schedules the worker. -/
theorem acknowledge_of_pos {k : Nat} (hk : 0 < k) (a : Count3) (s : State) :
    acknowledge k a s = { s with
      sentQ := s.sentQ.drop k, rack := a, credit := s.credit + k, retryCount := 0, workerScheduled := true } := by
  rw [acknowledge, if_pos hk, decide_eq_true hk, Bool.or_true]

/-- Without progress only the counter is written. -/
theorem acknowledge_zero (a : Count3) (s : State) : acknowledge 0 a s = { s with rack := a } := by
  rw [acknowledge, if_neg (Nat.lt_irrefl 0), decide_eq_false (Nat.lt_irrefl 0), Bool.or_false]
  rfl

/-- Settles O27: everything, a part, nothing, or a frame never sent. -/
theorem rxAckRemovesAcknowledgedUnits : Obligations.RxAckRemovesAcknowledgedUnits := by
  intro a n s h hn
  rw [← ackDistance_eq] at hn
  subst hn
  rw [exec_arqRxAck_of_inService a h]
  refine ⟨fun ha hq => ?_, fun ha hq => ?_, fun ha hpos hle => ?_, fun ha hzero => ?_, fun ha hlt => ?_⟩
  · rw [rxAck_of_all ha, acknowledge_of_pos (List.length_pos_iff.mpr hq), List.drop_length]
    rfl
  · rw [rxAck_of_all ha, hq, List.length_nil, acknowledge_zero, ← hq]
    rfl
  · rw [rxAck_of_part ha hle, acknowledge_of_pos hpos]
    rfl
  · rw [rxAck_of_part ha (hzero ▸ Nat.zero_le _), hzero, acknowledge_zero, (ackDistance_eq_zero_iff s a).mp hzero]
    rfl
  · rw [rxAck_of_beyond ha hlt]
    rfl

/-- Where all that was sent is acknowledged up to `a`, the same value only cancels the timer, if it does anything. -/
theorem rxAck_of_rack {s : State} (hq : s.seq = s.rack → s.sentQ = []) :
    rxAck s.rack s = if s.rack = s.seq then s.cancelRtx else s := by
  split
  case isTrue ha => rw [rxAck_of_all ha, hq ha.symm, List.length_nil, acknowledge_zero]
  case isFalse ha =>
    have hd : s.ackDistance s.rack = 0 := (ackDistance_eq_zero_iff s _).mpr rfl
    rw [rxAck_of_part ha (hd ▸ Nat.zero_le _), hd, acknowledge_zero]

theorem rxAck_rxAck (a : Count3) (s : State) : rxAck a (rxAck a s) = rxAck a s := by
  by_cases ha : a = s.seq
  · rw [rxAck_of_all ha]
    have hnil : (acknowledge s.sentQ.length a s).cancelRtx.sentQ = [] := List.drop_length
    exact (rxAck_of_rack fun _ => hnil).trans (if_pos ha)
  · rcases Nat.lt_or_ge s.sentQ.length (s.ackDistance a) with hlt | hle
    · rw [rxAck_of_beyond ha hlt, rxAck_of_beyond ha hlt]
    · rw [rxAck_of_part ha hle]
      exact (rxAck_of_rack (s := acknowledge (s.ackDistance a) a s) fun he => absurd he.symm ha).trans (if_neg ha)

/-- Settles O28: after the first acknowledgement the value names no unit that is still outstanding. -/
theorem acknowledgementIsIdempotent : Obligations.AcknowledgementIsIdempotent := by
  intro a s h
  refine ⟨_, exec_arqRxAck_of_inService a h, ?_⟩
  rw [exec_arqRxAck_of_inService a (inService_answering (inService_rxAck a h) _), rxAck_answering, rxAck_rxAck,
    answering_answering]

/-! ### Delivery -/

theorem exec_linkDispatch_of_inService (m : LcMsg) {s : State} (h : s.inService) :
    exec (.linkDispatch m) s = .next ((linkDispatch m s).answering .done) :=
  onBcsp_of_inService h

theorem deliver_of_link {h : Header} (ht : h.type = 15) (p : Bytes) (arqOn : Bool) (s : State) :
    deliver h p arqOn s = linkDispatch (lcDecode p) s := if_pos ht

theorem deliver_of_no_tag {h : Header} (hl : h.type ≠ 15) (ht : tagOf h.type = none) (p : Bytes) (arqOn : Bool)
    (s : State) : deliver h p arqOn s = s := by
  simp only [deliver, if_neg (show h.type ≠ Config.typeLink from hl), ht]

theorem deliver_of_tag {h : Header} {tag : Tag} (hl : h.type ≠ 15) (ht : tagOf h.type = some tag) (p : Bytes)
    (arqOn : Bool) (s : State) :
    deliver h p arqOn s = if arqOn then recvFrameFrom .bcsp ⟨tag, p⟩ s else s := by
  simp only [deliver, if_neg (show h.type ≠ Config.typeLink from hl), ht]

theorem tagOf_of_undelivered :
    ∀ t ∈ ([0, 3, 6, 7, 8, 9, 10, 11, 12, 13] : List (BitVec 4)), t ≠ 15 ∧ tagOf t = none := by
  decide

theorem tagOf_of_data :
    ∀ row ∈ ([(1, .cmd), (2, .acl), (4, .evt), (5, .iso), (14, .vnd)] : List (BitVec 4 × Tag)),
      row.1 ≠ 15 ∧ tagOf row.1 = some row.2 := by
  decide

/-- Settles O29: link control, the types that deliver nothing, and the five data types. -/
theorem deliverFollowsTheType : Obligations.DeliverFollowsTheType := by
  intro h p arqOn s hs
  rw [exec_arqDeliver_of_inService h p arqOn hs]
  refine ⟨fun ht => ?_, fun ht => ?_, fun row hrow ht => ?_⟩
  · exact ⟨_, exec_linkDispatch_of_inService _ hs, by rw [deliver_of_link ht]⟩
  · obtain ⟨hl, hnone⟩ := tagOf_of_undelivered _ ht
    rw [deliver_of_no_tag hl hnone]
    rfl
  · obtain ⟨hl, htag⟩ := tagOf_of_data row hrow
    rw [deliver_of_tag (ht ▸ hl) (ht ▸ htag)]
    refine ⟨fun hon hchain => ?_, fun hoff => ?_⟩
    · rw [if_pos hon, recvFrameFrom, if_pos hchain]
      rfl
    · rw [hoff, if_neg Bool.false_ne_true]
      rfl

/-! ### The timers -/

theorem rtxFireEnabled_of_inService {s : State} (h : s.inService) :
    s.rtxFireEnabled = decide (s.rtxTimer = .armed) := by
  rw [State.rtxFireEnabled, bcspLive_of_inService h, Bool.true_and]

theorem rtxWorkEnabled_of_inService {s : State} (h : s.inService) : s.rtxWorkEnabled = s.rtxWork := by
  rw [State.rtxWorkEnabled, bcspLive_of_inService h, Bool.true_and]

theorem wakeFireEnabled_of_inService {s : State} (h : s.inService) :
    s.wakeFireEnabled = decide (s.wakeTimer = .armed) := by
  rw [State.wakeFireEnabled, bcspLive_of_inService h, Bool.true_and]

theorem guardElapseEnabled_of_inService {s : State} (h : s.inService) : s.guardElapseEnabled = s.guardWait := by
  rw [State.guardElapseEnabled, bcspLive_of_inService h, Bool.true_and]

theorem exec_rtxFire_of_armed {s : State} (h : s.inService) (ht : s.rtxTimer = .armed) :
    exec .rtxFire s = .next ((rtxFire s).answering .done) :=
  if_pos ((rtxFireEnabled_of_inService h).trans (decide_eq_true ht))

theorem exec_rtxTimeout_of_armed {s : State} (h : s.inService) (ht : s.rtxTimer = .armed) :
    exec .rtxTimeout s = .next ((rtxWork (rtxFire s)).answering .done) :=
  if_pos ((rtxFireEnabled_of_inService h).trans (decide_eq_true ht))

theorem exec_rtxWork_of_pending {s : State} (h : s.inService) (hw : s.rtxWork = true) :
    exec .rtxWork s = .next ((rtxWork s).answering .done) :=
  if_pos ((rtxWorkEnabled_of_inService h).trans hw)

theorem exec_linkTimeout_of_inService {s : State} (h : s.inService) :
    exec .linkTimeout s = .next ((linkTimeout s).answering .done) :=
  onBcsp_of_inService h

theorem rtxWork_before_handshake {s : State} (h : s.localState = .uninitialized ∨ s.localState = .initialized) :
    rtxWork s = linkTimeout { s with rtxWork := false } := by
  rcases h with h | h <;> simp only [rtxWork, h]

theorem rtxWork_of_waitPeerActive {s : State} (h : s.localState = .waitPeerActive) :
    rtxWork s = { s with rtxWork := false } := by
  simp only [rtxWork, h]

theorem rtxWork_of_established {s : State} (h : s.established) :
    rtxWork s = arqTimeout { s with rtxWork := false } := by
  rcases h with h | h <;> simp only [rtxWork, h]

theorem linkTimeout_answering (s : State) (a : Answer) : linkTimeout (s.answering a) = (linkTimeout s).answering a := by
  have hstate : (s.answering a).localState = s.localState := rfl
  rw [linkTimeout, linkTimeout, hstate]
  cases s.localState <;> rfl

theorem arqTimeout_answering (s : State) (a : Answer) : arqTimeout (s.answering a) = (arqTimeout s).answering a := by
  by_cases hq : s.sentQ = []
  · rw [arqTimeout_of_nil hq, arqTimeout_of_nil (by exact hq)]
  · rcases Nat.lt_or_ge s.retryCount s.params.retryLimit with hlt | hle
    · rw [arqTimeout_of_lt_limit hq hlt, arqTimeout_of_lt_limit (by exact hq) (by exact hlt)]
      rfl
    · rw [arqTimeout_of_limit_le hq hle, arqTimeout_of_limit_le (by exact hq) (by exact hle)]
      rfl

theorem rtxWork_answering (s : State) (a : Answer) : rtxWork (s.answering a) = (rtxWork s).answering a := by
  cases hl : s.localState with
  | uninitialized =>
    rw [rtxWork_before_handshake (s := s) (.inl hl), rtxWork_before_handshake (s := s.answering a) (.inl hl)]
    exact linkTimeout_answering { s with rtxWork := false } a
  | initialized =>
    rw [rtxWork_before_handshake (s := s) (.inr hl), rtxWork_before_handshake (s := s.answering a) (.inr hl)]
    exact linkTimeout_answering { s with rtxWork := false } a
  | waitPeerActive =>
    rw [rtxWork_of_waitPeerActive hl, rtxWork_of_waitPeerActive (by exact hl)]
    rfl
  | active =>
    rw [rtxWork_of_established (s := s) (.inl hl), rtxWork_of_established (s := s.answering a) (.inl hl)]
    exact arqTimeout_answering { s with rtxWork := false } a
  | lowPower =>
    rw [rtxWork_of_established (s := s) (.inr hl), rtxWork_of_established (s := s.answering a) (.inr hl)]
    exact arqTimeout_answering { s with rtxWork := false } a

/-- Settles O31: each timer with and without its condition, then the deferred work by the sequencing state. -/
theorem timersFireAndTheirWorkRuns : Obligations.TimersFireAndTheirWorkRuns := by
  intro s h
  have notArmed : ∀ {t : Timer}, t = .idle → decide (t = .armed) = false := by rintro _ rfl; rfl
  refine ⟨fun ht => exec_rtxFire_of_armed h ht, fun ht => ?wakeFire, fun hg => ?guard, fun ht => ?_, fun ht => ?_,
    fun hg => ?_, fun hw => ⟨fun hl => ?_, fun hl => ?_, fun hl => ?_⟩, fun hw => ?_, fun ht => ?timeout, fun ht => ?_⟩
  case wakeFire => exact if_pos ((wakeFireEnabled_of_inService h).trans (decide_eq_true ht))
  case guard => exact if_pos ((guardElapseEnabled_of_inService h).trans hg)
  · exact turnedAway_of_not ((rtxFireEnabled_of_inService h).trans (notArmed ht))
  · exact turnedAway_of_not ((wakeFireEnabled_of_inService h).trans (notArmed ht))
  · exact turnedAway_of_not ((guardElapseEnabled_of_inService h).trans hg)
  · exact ⟨_, exec_linkTimeout_of_inService (by exact { h with }),
      by rw [exec_rtxWork_of_pending h hw, rtxWork_before_handshake hl]⟩
  · rw [exec_rtxWork_of_pending h hw, rtxWork_of_waitPeerActive hl]
    rfl
  · exact ⟨_, exec_arqTimeout_of_inService (by exact { h with }),
      by rw [exec_rtxWork_of_pending h hw, rtxWork_of_established hl]⟩
  · exact turnedAway_of_not ((rtxWorkEnabled_of_inService h).trans hw)
  case timeout =>
    refine ⟨_, _, exec_rtxFire_of_armed h ht, exec_rtxWork_of_pending (by exact { h with }) rfl, ?_⟩
    rw [exec_rtxTimeout_of_armed h ht, rtxWork_answering, answering_answering]
  · exact turnedAway_of_not ((rtxFireEnabled_of_inService h).trans (notArmed ht))

end Sys2Proof.Machine
end

section
/-! The link handshake (44_link_fsm.md) and the power messages (45_power_fsm.md R361 to R364), state by state. -/

namespace Sys2Proof.Machine

/-! ### What is sent -/

/-- The proposal as 10_state.md R39 lays it out. -/
theorem cfgByte_layout (w : BitVec 3) (f c : Bool) (v : BitVec 2) :
    cfgByte w f c v = 0#1 ++ v ++ BitVec.ofBool c ++ BitVec.ofBool f ++ w := by
  revert w f c v
  decide +kernel

theorem cfgSent_cfgLocal (p : Params) : cfgSent (cfgLocal p) = cfgLocal p := cfgSent_cfgByte _ _ _ _

/-- A queued message: its magic bytes and its configuration byte with the reserved bit cleared (R139, R140, R327). -/
theorem linkSend_eq (m : LcName) (c : Option Byte) (s : State) :
    linkSend m c s = { s with
      unrelQ := s.unrelQ ++ [⟨.link, (lcMagic m).1 :: (lcMagic m).2 :: (c.map (· &&& 0x7F)).toList⟩]
      workerScheduled := true } := by
  have hsent : cfgSent = (· &&& 0x7F) := funext cfgSent_eq
  rw [linkSend, lcPayload, hsent]
  rfl

theorem linkSend_proposal (s : State) :
    linkSend .conf (some (cfgLocal s.params)) s = { s with
      unrelQ := s.unrelQ ++ [⟨.link, [0x03, 0xFC, 0#1 ++ s.params.v0 ++ BitVec.ofBool s.params.c0 ++
        BitVec.ofBool s.params.f0 ++ BitVec.ofNat 3 s.params.w0]⟩]
      workerScheduled := true } := by
  rw [linkSend, Option.map_some, cfgSent_cfgLocal, cfgLocal, cfgByte_layout]
  rfl

/-! ### The requests that answer in place -/

theorem exec_linkRxSync_of_inService {s : State} (h : s.inService) :
    exec .linkRxSync s = .next ((rxSync s).answering .done) := onBcsp_of_inService h

theorem exec_linkRxSyncResp_of_inService {s : State} (h : s.inService) :
    exec .linkRxSyncResp s = .next ((rxSyncResp s).answering .done) := onBcsp_of_inService h

theorem exec_linkRxConf_of_inService (cfg : Option Byte) {s : State} (h : s.inService) :
    exec (.linkRxConf cfg) s = .next ((rxConf cfg s).answering .done) := onBcsp_of_inService h

theorem exec_linkSend_of_inService (m : LcName) (cfg : Option Byte) {s : State} (h : s.inService) :
    exec (.linkSend m cfg) s = .next ((linkSend m cfg s).answering .done) := onBcsp_of_inService h

theorem exec_pwrRxWakeup_of_inService {s : State} (h : s.inService) :
    exec .pwrRxWakeup s = .next ((rxWakeup s).answering .done) := onBcsp_of_inService h

theorem exec_pwrRxWoken_of_inService {s : State} (h : s.inService) :
    exec .pwrRxWoken s = .next ((rxWoken s).answering .done) := onBcsp_of_inService h

theorem exec_pwrRxSleep_of_inService {s : State} (h : s.inService) :
    exec .pwrRxSleep s = .next ((rxSleep s).answering .done) := onBcsp_of_inService h

/-! ### The handshake -/

theorem not_established_iff (s : State) :
    ¬ s.established ↔ s.localState = .uninitialized ∨ s.localState = .initialized ∨ s.localState = .waitPeerActive := by
  rw [State.established]
  cases s.localState <;> decide

theorem linkTimeout_of_uninitialized {s : State} (hl : s.localState = .uninitialized) :
    linkTimeout s = (linkSend .sync none s).armRtx := by
  simp only [linkTimeout, hl]

theorem linkTimeout_of_initialized {s : State} (hl : s.localState = .initialized) :
    linkTimeout s = (linkSend .conf (some (cfgLocal s.params)) s).armRtx := by
  simp only [linkTimeout, hl]

theorem linkTimeout_of_later {s : State} (hl : s.localState = .waitPeerActive ∨ s.established) : linkTimeout s = s := by
  rcases hl with hl | hl | hl <;> simp only [linkTimeout, hl]

theorem rxSync_of_opening {s : State} (hl : s.localState = .uninitialized ∨ s.localState = .initialized) :
    rxSync s = linkSend .syncResp none s := by
  rcases hl with hl | hl <;> simp only [rxSync, hl]

theorem rxSync_of_waitPeerActive {s : State} (hl : s.localState = .waitPeerActive) : rxSync s = s := by
  simp only [rxSync, hl]

theorem rxSync_of_established {s : State} (hl : s.established) : rxSync s = raiseFault .protocolSyncWhileActive s := by
  rcases hl with hl | hl <;> simp only [rxSync, hl]

theorem rxSyncResp_of_uninitialized {s : State} (hl : s.localState = .uninitialized) :
    rxSyncResp s = (linkSend .conf (some (cfgLocal s.params)) { s with localState := .initialized }).armRtx := by
  simp only [rxSyncResp, hl]

theorem rxSyncResp_of_later {s : State} (hl : s.localState ≠ .uninitialized) : rxSyncResp s = s := by
  unfold rxSyncResp
  split
  next hu => exact absurd hu hl
  all_goals rfl

/-- Settles O32: the timeout and the two messages in each sequencing state. -/
theorem handshakeOpensWithSync : Obligations.HandshakeOpensWithSync := by
  intro s proposal h hprop
  subst hprop
  rw [exec_linkTimeout_of_inService h, exec_linkRxSync_of_inService h, exec_linkRxSyncResp_of_inService h]
  refine ⟨fun hl => ?_, fun hl => ?conf, fun hl => ?_, fun hl => ?_, fun hl => ?_, fun hl => ?syncOnLink,
    fun hl => ?confToo, fun hl => ?_⟩
  case conf =>
    rw [linkTimeout_of_initialized hl, linkSend_proposal]
    rfl
  case syncOnLink =>
    rw [rxSync_of_established hl, raiseFault_of_fatal rfl]
    rfl
  case confToo =>
    rw [rxSyncResp_of_uninitialized hl]
    exact congrArg (fun t : State => Host.Outcome.next (t.armRtx.answering .done))
      (linkSend_proposal { s with localState := .initialized })
  · rw [linkTimeout_of_uninitialized hl]
    rfl
  · rw [linkTimeout_of_later hl]
    rfl
  · rw [rxSync_of_opening hl]
    rfl
  · rw [rxSync_of_waitPeerActive hl]
    rfl
  · rw [rxSyncResp_of_later hl]
    rfl

theorem rxConf_of_uninitialized {s : State} (hl : s.localState = .uninitialized) (cfg : Option Byte) :
    rxConf cfg s = s := by
  simp only [rxConf, hl]

theorem rxConf_of_initialized {s : State} (hl : s.localState = .initialized) (cfg : Option Byte) :
    rxConf cfg s = { sendConfResp cfg s with peerState := .active } := by
  simp only [rxConf, hl]

theorem rxConf_of_waitPeerActive {s : State} (hl : s.localState = .waitPeerActive) (cfg : Option Byte) :
    rxConf cfg s = enterActive { sendConfResp cfg s with peerState := .active } := by
  simp only [rxConf, hl]

theorem rxConf_of_established {s : State} (hl : s.established) (cfg : Option Byte) :
    rxConf cfg s = sendConfResp cfg s := by
  rcases hl with hl | hl <;> simp only [rxConf, hl]

/-- The first point of the parameter with these arguments decides (R330). -/
theorem negotiate_of_first {p : Params} {cfg field : Option Byte} {proposal : Byte}
    {pre post : List (Option Byte × Byte × Option Byte)} (hp : p.negotiation = pre ++ (cfg, proposal, field) :: post)
    (hpre : ∀ a, (cfg, proposal, a) ∉ pre) : negotiate p cfg proposal = field := by
  have hnone : pre.find? (fun e => decide (e.1 = cfg ∧ e.2.1 = proposal)) = none := by
    refine List.find?_eq_none.mpr fun e he hd => ?_
    obtain ⟨rfl, rfl⟩ := of_decide_eq_true hd
    exact hpre e.2.2 he
  rw [negotiate, hp, List.find?_append, hnone, Option.none_or, List.find?_cons_of_pos (by simp)]

theorem negotiate_of_none {p : Params} {cfg : Option Byte} {proposal : Byte}
    (h : ∀ a, (cfg, proposal, a) ∉ p.negotiation) : negotiate p cfg proposal = cfg := by
  rcases negotiate_spec p cfg proposal with hm | ⟨-, he⟩
  · exact absurd hm (h _)
  · exact he

/-- Settles O33: the answer NEGOTIATE gives, queued by sequencing state. -/
theorem confIsAnsweredByState : Obligations.ConfIsAnsweredByState := by
  intro cfg field s reply proposal h hprop hfield hreply
  have hneg : negotiate s.params cfg (cfgLocal s.params) = field := by
    rw [cfgLocal, cfgByte_layout, ← hprop]
    rcases hfield with ⟨rfl, hnone⟩ | ⟨pre, post, hp, hpre⟩
    · exact negotiate_of_none hnone
    · exact negotiate_of_first hp hpre
  have hsend : sendConfResp cfg s = { s with unrelQ := s.unrelQ ++ [reply], workerScheduled := true } := by
    rw [sendConfResp, hneg, linkSend_eq, hreply]
    rfl
  rw [exec_linkRxConf_of_inService cfg h]
  refine ⟨fun hl => ?_, fun hl => ?_, fun hl => ?_, fun hl => ?_, ?negotiate⟩
  case negotiate => exact (onBcsp_of_inService h).trans (by rw [hneg]; rfl)
  · rw [rxConf_of_uninitialized hl]
    rfl
  · rw [rxConf_of_initialized hl, hsend]
    rfl
  · exact ⟨_, exec_linkEnterActive_of_inService (by exact { h with }), by rw [rxConf_of_waitPeerActive hl, hsend]⟩
  · rw [rxConf_of_established hl, hsend]
    rfl

theorem committed_of_none {s : State} (h : s.cfgPeer = none) :
    s.windowToCommit = s.params.w0 ∧ s.flowToCommit = s.params.f0 ∧ s.crcToCommit = s.params.c0 := by
  simp only [State.windowToCommit, State.flowToCommit, State.crcToCommit, h, and_self]

theorem committed_of_some {s : State} {c : Byte} (h : s.cfgPeer = some c) :
    s.windowToCommit = committedWindow s.params c ∧ s.flowToCommit = cfgSwFlow c ∧ s.crcToCommit = cfgCrc c := by
  simp only [State.windowToCommit, State.flowToCommit, State.crcToCommit, h, and_self]

/-- Settles O35: without a captured byte, and with one. -/
theorem enterActiveCommitsTheConfiguration : Obligations.EnterActiveCommitsTheConfiguration := by
  intro s w flow crc h hcommit
  rw [exec_linkEnterActive_of_inService h]
  rcases hcommit with ⟨hc, rfl, rfl, rfl⟩ | ⟨c, hc, rfl, rfl, rfl⟩
  · obtain ⟨hw, hf, hcrc⟩ := committed_of_none hc
    rw [enterActive, hw, hf, hcrc]
    rfl
  · obtain ⟨hw, hf, hcrc⟩ := committed_of_some hc
    rw [enterActive, hw, hf, hcrc]
    rfl

/-- Settles O36: the seven messages sent, and the rule each of them runs. -/
theorem linkMessagesAreSentAndDispatched : Obligations.LinkMessagesAreSentAndDispatched := by
  intro cfg s h
  refine ⟨?sent, ?dispatched, exec_linkDispatch_of_inService .unknown h⟩
  case sent =>
    simp only [List.forall_mem_cons, List.not_mem_nil, false_imp_iff, implies_true, and_true, linkSend_eq,
      exec_linkSend_of_inService _ _ h]
    exact ⟨rfl, rfl, rfl, rfl, rfl, rfl, rfl⟩
  case dispatched =>
    simp only [List.forall_mem_cons, List.not_mem_nil, false_imp_iff, implies_true, and_true,
      exec_linkDispatch_of_inService _ h]
    exact ⟨⟨_, exec_linkRxSync_of_inService h, rfl⟩, ⟨_, exec_linkRxSyncResp_of_inService h, rfl⟩,
      ⟨_, exec_linkRxConf_of_inService cfg h, rfl⟩, ⟨_, exec_linkRxConfResp_of_inService cfg h, rfl⟩,
      ⟨_, exec_pwrRxWakeup_of_inService h, rfl⟩, ⟨_, exec_pwrRxWoken_of_inService h, rfl⟩,
      ⟨_, exec_pwrRxSleep_of_inService h, rfl⟩⟩

end Sys2Proof.Machine
end

section
/-! The power handshake: the messages, the WAKEUP that is sent and retried, the closed gate and the recovery
(45_power_fsm.md). -/

namespace Sys2Proof.Machine

/-! ### The power messages (R361 to R364) -/

theorem rxWoken_of_not_established {s : State} (h : ¬ s.established) : rxWoken s = s :=
  if_neg (mt (linkActive_iff_established s).mp h)

theorem rxSleep_of_not_established {s : State} (h : ¬ s.established) : rxSleep s = s :=
  if_neg (mt (linkActive_iff_established s).mp h)

theorem rxWakeup_of_not_established {s : State} (h : ¬ s.established) : rxWakeup s = s := by
  rcases (not_established_iff s).mp h with hl | hl | hl <;> simp only [rxWakeup, hl]

theorem rxWakeup_of_lowPower {s : State} (h : s.localState = .lowPower) :
    rxWakeup s = { linkSend .woken none s with localState := .active } := by
  simp only [rxWakeup, h]

theorem rxWakeup_of_active {s : State} (h : s.localState = .active) : rxWakeup s = rxWoken s := by
  simp only [rxWakeup, h]

/-- The peer is awake and no WAKEUP is under way (R362). -/
def State.peerAwake (s : State) : State :=
  { s with peerState := .active, wakeTimer := .idle, wakeupPending := false, guardWait := false }

theorem rxWoken_of_insync {s : State} (h : s.established) (hd : s.seq = s.rack) :
    rxWoken s = s.peerAwake.scheduleWorker := by
  have hin : ¬ s.desync = true := fun hdes => of_decide_eq_true hdes hd
  exact (if_pos ((linkActive_iff_established s).mpr h)).trans (congrArg State.scheduleWorker (if_neg hin))

theorem rxWoken_of_desync {s : State} (h : s.established) (hd : s.seq ≠ s.rack) :
    rxWoken s = arqReload s.peerAwake :=
  (if_pos ((linkActive_iff_established s).mpr h)).trans
    (congrArg State.scheduleWorker (if_pos (decide_eq_true hd : s.desync = true)))

theorem rxSleep_of_insync {s : State} (h : s.established) (hd : s.seq = s.rack) :
    rxSleep s = { s with peerState := .lowPower } := by
  have hin : ¬ s.desync = true := fun hdes => of_decide_eq_true hdes hd
  exact (if_pos ((linkActive_iff_established s).mpr h)).trans (if_neg hin)

theorem rxSleep_of_desync {s : State} (h : s.established) (hd : s.seq ≠ s.rack) :
    rxSleep s = { s with peerState := .lowPower, wakeTimer := .armed } :=
  (if_pos ((linkActive_iff_established s).mpr h)).trans (if_pos (decide_eq_true hd))

theorem sleepReqEnabled_iff {s : State} (h : s.inService) :
    s.sleepReqEnabled = true ↔ s.localState = .active ∧ s.sentQ = [] ∧ s.relQ = [] := by
  rw [State.sleepReqEnabled, bcspLive_of_inService h, Bool.true_and, Bool.and_eq_true, Bool.and_eq_true,
    decide_eq_true_iff, List.isEmpty_iff, List.isEmpty_iff, and_assoc]

/-- Settles O38: each message where the link is not established, and where it is, in sync or not. -/
theorem powerMessagesFollowTheRules : Obligations.PowerMessagesFollowTheRules := by
  intro s h
  rw [exec_pwrRxWakeup_of_inService h, exec_pwrRxWoken_of_inService h, exec_pwrRxSleep_of_inService h]
  refine ⟨fun hn => ?_, fun hl => ?_, fun hl => ⟨_, rfl, by rw [rxWakeup_of_active hl]⟩, fun he hd => ?_,
    fun he hd => ⟨_, exec_arqReload_of_inService (by exact { h with }), by rw [rxWoken_of_desync he hd]; rfl⟩,
    fun he hd => ?_, fun he hd => ?_, fun hl hs hr => ?_, fun hn => ?_⟩
  · rw [rxWakeup_of_not_established hn, rxWoken_of_not_established hn, rxSleep_of_not_established hn]
    exact ⟨rfl, rfl, rfl⟩
  · rw [rxWakeup_of_lowPower hl]
    rfl
  · rw [rxWoken_of_insync he hd]
    rfl
  · rw [rxSleep_of_insync he hd]
    rfl
  · rw [rxSleep_of_desync he hd]
    rfl
  · exact if_pos ((sleepReqEnabled_iff h).mpr ⟨hl, hs, hr⟩)
  · refine turnedAway_of_not (Bool.eq_false_iff.mpr fun he => ?_)
    obtain ⟨hl, hs, hr⟩ := (sleepReqEnabled_iff h).mp he
    rcases hn with hn | hn | hn
    · exact hn hl
    · exact hn hs
    · exact hn hr

/-! ### The WAKEUP (R366, R368, R370) -/

theorem packHeader_wakeup : ∀ ack : Count3, packHeader 0 ack false false Config.typeLink 2 =
    [ack.setWidth 8 <<< 3, 0x2F, 0x00, ~~~(ack.setWidth 8 <<< 3 + 0x2F)] := by
  decide +kernel

theorem wireBytes_wakeupUnit (s : State) : s.wireBytes wakeupUnit false =
    slipEncode [s.ack.setWidth 8 <<< 3, 0x2F, 0x00, ~~~(s.ack.setWidth 8 <<< 3 + 0x2F), 0x05, 0xFA] s.swFlow := by
  have hcrc : s.frameCrc Config.typeLink = false := Bool.and_false _
  have hframe : bcspFrame 0 s.ack false false Config.typeLink [0x05, 0xFA] =
      [s.ack.setWidth 8 <<< 3, 0x2F, 0x00, ~~~(s.ack.setWidth 8 <<< 3 + 0x2F), 0x05, 0xFA] :=
    congrArg (· ++ [0x05, 0xFA]) (packHeader_wakeup s.ack)
  show slipEncode (bcspFrame 0 s.ack (s.frameCrc Config.typeLink) false Config.typeLink [0x05, 0xFA]) s.swFlow = _
  rw [hcrc, hframe]

/-- A WAKEUP that goes out: an owed acknowledgement stays owed (R370). -/
theorem sendWakeup_perfect {s : State} (h : s.neverFails) :
    sendWakeup s = .go { s with
      phyTx := s.phyTx ++ s.wireBytes wakeupUnit false
      wakeupPending := true
      guardWait := true
      wakeTimer := .armed
      allocDraws := s.allocDraws.tail
      sinkDraws := [] } := by
  rw [sendWakeup, txFrame_perfect wakeupUnit false s (allocOk_of_allocsSucceed h.allocs) h.chain h.sink]
  rfl

theorem sendWakeup_answering (s : State) (a : Answer) : sendWakeup (s.answering a) = (sendWakeup s).answering a := by
  rw [sendWakeup, sendWakeup, txFrame_answering]
  cases txFrame wakeupUnit false s <;> rfl

theorem wakeWork_of_asleep {s : State} (he : s.established) (hp : s.peerState = .lowPower) :
    wakeWork s = sendWakeup { s with wakeWork := false } := by
  have hcond : (s.linkActive && decide (s.peerState = .lowPower)) = true := by
    rw [(linkActive_iff_established s).mpr he, hp]
    rfl
  exact if_pos hcond

theorem wakeWork_of_awake {s : State} (h : ¬ (s.established ∧ s.peerState = .lowPower)) :
    wakeWork s = .go { s with wakeWork := false } := by
  refine if_neg fun hcond => h ?_
  obtain ⟨he, hp⟩ := Bool.and_eq_true_iff.mp hcond
  exact ⟨(linkActive_iff_established s).mp he, of_decide_eq_true hp⟩

theorem wakeWork_answering (s : State) (a : Answer) : wakeWork (s.answering a) = (wakeWork s).answering a := by
  by_cases h : s.established ∧ s.peerState = .lowPower
  · obtain ⟨he, hp⟩ := h
    rw [wakeWork_of_asleep he hp, wakeWork_of_asleep (s := s.answering a) he hp]
    exact sendWakeup_answering { s with wakeWork := false } a
  · rw [wakeWork_of_awake h, wakeWork_of_awake (s := s.answering a) h]
    rfl

/-- Where nothing fails the work of the wakeup timer runs to its end. -/
theorem wakeWork_goes {s : State} (h : s.neverFails) : ∃ t, wakeWork s = .go t := by
  by_cases hc : s.established ∧ s.peerState = .lowPower
  · exact ⟨_, (wakeWork_of_asleep hc.1 hc.2).trans (sendWakeup_perfect { h with })⟩
  · exact ⟨_, wakeWork_of_awake hc⟩

theorem wakeWorkEnabled_of_inService {s : State} (h : s.inService) : s.wakeWorkEnabled = s.wakeWork := by
  rw [State.wakeWorkEnabled, bcspLive_of_inService h, Bool.true_and]

theorem exec_wakeFire_of_armed {s : State} (h : s.inService) (ht : s.wakeTimer = .armed) :
    exec .wakeFire s = .next ((wakeFire s).answering .done) :=
  if_pos ((wakeFireEnabled_of_inService h).trans (decide_eq_true ht))

theorem exec_wakeTimeout_of_armed {s : State} (h : s.inService) (ht : s.wakeTimer = .armed) :
    exec .wakeTimeout s = (wakeWork (wakeFire s)).outcome .done :=
  if_pos ((wakeFireEnabled_of_inService h).trans (decide_eq_true ht))

theorem exec_wakeWork_of_pending {s : State} (h : s.inService) (hw : s.wakeWork = true) :
    exec .wakeWork s = (wakeWork s).outcome .done :=
  if_pos ((wakeWorkEnabled_of_inService h).trans hw)

theorem txWakeEnabled_of_pending {s : State} (h : s.wakeupPending = true) : s.txWakeEnabled = false := by
  rw [State.txWakeEnabled, h, Bool.not_true, Bool.and_false, Bool.false_and]

/-- Settles O39: one WAKEUP, sent for whichever of its causes. -/
theorem wakeupIsSentOnceAndRetried : Obligations.WakeupIsSentOnceAndRetried := by
  intro s t h hds hsink hchain ht
  have hgood : s.neverFails := ⟨hds, hsink, hchain⟩
  have hsend : (sendWakeup s).outcome .done = .next t := by
    rw [sendWakeup_perfect hgood, wireBytes_wakeupUnit, ← hsink, ht]
    rfl
  refine ⟨(exec_pwrSendWakeup_of_inService h).trans hsend, fun he => (if_pos he).trans hsend, turnedAway_of_not,
    ?second, fun hw he hp => ?retry, fun hw hn => ?awake, fun hw => ?noWork, fun harm => ?timeout, fun hidle => ?idle⟩
  case second => exact turnedAway_of_not (txWakeEnabled_of_pending (by rw [ht]))
  case retry =>
    have hgo := sendWakeup_perfect (s := { s with wakeWork := false }) { hgood with }
    refine ⟨_, (exec_pwrSendWakeup_of_inService (by exact { h with })).trans (by rw [hgo]; rfl), ?_⟩
    rw [exec_wakeWork_of_pending h hw, wakeWork_of_asleep he hp, hgo]
    rfl
  case awake =>
    rw [exec_wakeWork_of_pending h hw, wakeWork_of_awake hn]
    rfl
  case noWork => exact turnedAway_of_not ((wakeWorkEnabled_of_inService h).trans hw)
  case timeout =>
    obtain ⟨u, hu⟩ := wakeWork_goes (s := wakeFire s) { hgood with }
    refine ⟨_, u.answering .done, exec_wakeFire_of_armed h harm, ?_, ?_⟩
    · rw [exec_wakeWork_of_pending (by exact { h with }) rfl, wakeWork_answering, outcome_answering, hu]
      rfl
    · rw [exec_wakeTimeout_of_armed h harm, hu]
      rfl
  case idle =>
    refine turnedAway_of_not ((wakeFireEnabled_of_inService h).trans ?_)
    rw [hidle]
    rfl

/-! ### The closed gate (R367) -/

/-- However a frame ends, what went to the wire is a beginning of its bytes, and an unreliable one is not numbered. -/
theorem txFrame_writes {u : QUnit} {r : Bool} {s t : State} (h : (txFrame u r s).ends = some t) :
    (r = false → t.seq = s.seq) ∧ ∃ n, t.phyTx = s.phyTx ++ (s.wireBytes u r).take n := by
  rcases txFrame_cases u r s with ⟨-, e⟩ | ⟨-, -, e⟩ | ⟨-, -, ds, -, e⟩ | ⟨-, -, n, ds, -, -, e⟩ | ⟨e, -⟩ <;>
    rw [e] at h <;> cases h
  · exact ⟨fun _ => rfl, 0, (List.append_nil _).symm⟩
  · exact ⟨fun hr => by subst hr; rfl, 0, (List.append_nil _).symm⟩
  · exact ⟨fun hr => by subst hr; rfl, _, rfl⟩
  · exact ⟨fun hr => by subst hr; rfl, n, rfl⟩

/-- Nothing reliable has moved, the gate is as it was, and at most the power message at the head of `unrel_q` has gone
out. -/
structure OnlyPowerSent (s t : State) : Prop where
  relQ : t.relQ = s.relQ
  sentQ : t.sentQ = s.sentQ
  seq : t.seq = s.seq
  credit : t.credit = s.credit
  rtxTimer : t.rtxTimer = s.rtxTimer
  gate : t.gateOpen = s.gateOpen
  phyTx : t.phyTx = s.phyTx ∨ ∃ u q n, s.unrelQ = u :: q ∧ u.power ∧ t.phyTx = s.phyTx ++ (s.wireBytes u false).take n

theorem OnlyPowerSent.refl (s : State) : OnlyPowerSent s s := ⟨rfl, rfl, rfl, rfl, rfl, rfl, .inl rfl⟩

/-- The frame of the power message at the head. -/
theorem OnlyPowerSent.of_txFrame {s t : State} {u : QUnit} {q : List QUnit} (hq : s.unrelQ = u :: q)
    (hp : isPower u = true) (h : (txFrame u false { s with unrelQ := q }).ends = some t) : OnlyPowerSent s t := by
  have k := txFrame_sent h
  obtain ⟨hseq, n, hphy⟩ := txFrame_writes h
  have hgate : t.gateOpen = s.gateOpen := by
    rw [State.gateOpen, State.gateOpen, k.peerState, k.wakeupPending, k.guardWait]
  exact ⟨k.relQ, k.sentQ, hseq rfl, k.credit, k.rtxTimer, hgate,
    .inr ⟨u, q, n, hq, (isPower_iff u).mp hp, hphy⟩⟩

theorem txUnreliable_closed {s t : State} (hg : s.gateOpen = false) (h : (txUnreliable s).ends = some t) :
    OnlyPowerSent s t := by
  rcases txUnreliable_cases s with ⟨-, e⟩ | ⟨u, q, hq, hcond, ⟨y, a, e⟩ | ⟨y, a, e⟩ | ⟨y, a, e⟩ | ⟨-, e⟩⟩ <;>
    rw [e] at h <;> cases h
  case inl => exact .refl s
  all_goals rw [hg, Bool.or_false] at hcond
  · exact .of_txFrame hq hcond (by rw [a]; rfl)
  · have k : OnlyPowerSent s y := .of_txFrame hq hcond (by rw [a]; rfl)
    exact { k with }
  · exact .of_txFrame hq hcond (by rw [a]; rfl)

theorem txOwedAck_closed {s : State} (hg : s.gateOpen = false) (sent : Bool) : txOwedAck s sent = .go s := by
  rw [txOwedAck, hg, Bool.and_false]
  rfl

/-- Through a closed gate the iteration is its unreliable part. -/
theorem txStep_closed {s t : State} (hg : s.gateOpen = false) (h : (txStep s).ends = some t) : OnlyPowerSent s t := by
  rcases txStep_cases s with ⟨-, e⟩ | ⟨-, ⟨v, h1, e⟩ | ⟨-, e⟩ | ⟨v, b, h1, hrel⟩⟩
  · rw [e] at h
    cases h
    exact { OnlyPowerSent.refl s with }
  · rw [e] at h
    cases h
    exact txUnreliable_closed hg (by rw [h1]; rfl)
  · rw [e] at h
    cases h
  · have k : OnlyPowerSent s v := txUnreliable_closed hg (by rw [h1]; rfl)
    have hv : v.gateOpen = false := k.gate.trans hg
    have hidle : txReliable v b = .on v b := txReliable_of_not_ready (by rw [hv, Bool.and_false]) b
    rcases hrel with ⟨w, h2, -⟩ | ⟨h2, -⟩ | ⟨w, b', h2, e⟩ <;> rw [hidle] at h2 <;> cases h2
    rw [e, txOwedAck_closed hv] at h
    cases h
    exact k

/-- Settles O40: by the parts of the iteration, of which the closed gate leaves one. -/
theorem closedGateLetsOnlyPowerMessagesPass : Obligations.ClosedGateLetsOnlyPowerMessagesPass := by
  intro s t hg h
  have hclosed : s.gateOpen = false := Bool.eq_false_iff.mpr (mt (gateOpen_iff s).mp hg)
  have k : OnlyPowerSent s t := by
    cases he : s.txStepEnabled with
    | false =>
      rw [show exec .txStep s = turnedAway s from if_neg (Bool.eq_false_iff.mp he)] at h
      cases h
      exact { OnlyPowerSent.refl s with }
    | true =>
      rw [exec_txStep_of_enabled he] at h
      obtain ⟨u, b, hu, rfl⟩ := outcome_next h
      exact { txStep_closed hclosed hu with }
  exact ⟨k.relQ, k.sentQ, k.seq, k.credit, k.rtxTimer, k.phyTx⟩

/-! ### The recovery (R372) -/

theorem exec_pwrRxSleep_of_desync {s : State} (h : s.inService) (he : s.established) (hd : s.seq ≠ s.rack) :
    exec .pwrRxSleep s = .next { s with peerState := .lowPower, wakeTimer := .armed, answer := .done } := by
  rw [exec_pwrRxSleep_of_inService h, rxSleep_of_desync he hd]
  rfl

theorem exec_pwrRxWoken_of_desync {s : State} (h : s.inService) (he : s.established) (hd : s.seq ≠ s.rack) :
    exec .pwrRxWoken s = .next ((arqReload s.peerAwake).answering .done) := by
  rw [exec_pwrRxWoken_of_inService h, rxWoken_of_desync he hd]

/-- The wakeup timer's expiry while the peer is assumed asleep sends another WAKEUP (R366). -/
theorem exec_wakeTimeout_of_asleep {s : State} (h : s.inService) (he : s.established) (hp : s.peerState = .lowPower)
    (harm : s.wakeTimer = .armed) (hgood : s.neverFails) :
    exec .wakeTimeout s = .next { s with
      phyTx := s.phyTx ++ s.wireBytes wakeupUnit false
      wakeupPending := true
      guardWait := true
      wakeWork := false
      wakeTimer := .armed
      allocDraws := s.allocDraws.tail
      sinkDraws := []
      answer := .done } := by
  have hsend := sendWakeup_perfect (s := { wakeFire s with wakeWork := false }) { hgood with }
  rw [exec_wakeTimeout_of_armed h harm, wakeWork_of_asleep (s := wakeFire s) he hp, hsend]
  rfl

/-- Settles O41: SLEEP arms the timer, its expiry sends the WAKEUP, WOKEN reloads. -/
theorem crossScenarioRecovers : Obligations.CrossScenarioRecovers := by
  intro s h hwin he hd hds hsink hchain
  have hrack := seq_sub_sentQ_length_eq_rack h hwin
  have hgood : s.neverFails := ⟨hds, hsink, hchain⟩
  exact ⟨_, _, _, exec_pwrRxSleep_of_desync h he hd, rfl, rfl,
    exec_wakeTimeout_of_asleep (by exact { h with }) (by exact he) rfl rfl (by exact { hgood with }), rfl,
    exec_pwrRxWoken_of_desync (by exact { h with }) (by exact he) (by exact hd), rfl, rfl, hrack, rfl, rfl, rfl⟩

end Sys2Proof.Machine
end

section
/-! The byte sink, the chain, the sizer and the H4 adapter (46_chain.md R391 to R397, 47_h4_sizer.md). -/

namespace Sys2Proof.Machine

/-! ### PHY.WRITE (R397) -/

/-- Answers within the limit that take the whole run, or run out, let the loop write it whole. -/
theorem sinkLoop_completes {limit : Nat} {pre post : List SinkAnswer} {rest : Bytes} (out : Bytes) {errors : Nat}
    (hpre : .stalled ∉ pre) (herr : errors + pre.count .hardError ≤ limit)
    (htaken : rest.length ≤ (pre.map SinkAnswer.taken).sum ∨ post = []) :
    ∃ left, left <:+ pre ++ post ∧ sinkLoop limit (pre ++ post) rest out errors = .complete (out ++ rest) left := by
  induction pre generalizing rest out errors with
  | nil =>
    rcases htaken with hlen | rfl
    · obtain rfl : rest = [] := List.length_eq_zero_iff.mp (Nat.le_zero.mp hlen)
      exact ⟨post, List.suffix_refl _, by rw [List.append_nil]; cases post <;> rfl⟩
    · refine ⟨[], List.suffix_refl _, ?_⟩
      cases rest with
      | nil => exact (List.append_nil out).symm ▸ rfl
      | cons b bs => rfl
  | cons d pre ih =>
    obtain ⟨hd, hrest⟩ := List.ne_and_not_mem_of_not_mem_cons hpre
    cases rest with
    | nil => exact ⟨_, List.suffix_refl _, by rw [List.append_nil]; rfl⟩
    | cons b bs =>
      cases d with
      | accepted k =>
        rw [List.count_cons_of_ne SinkAnswer.noConfusion] at herr
        rw [List.map_cons, List.sum_cons] at htaken
        obtain ⟨left, hsuf, hloop⟩ := ih (rest := (b :: bs).drop k) (out ++ (b :: bs).take k) hrest herr
          (htaken.imp_left fun hlen => by rw [List.length_drop]; exact Nat.sub_le_iff_le_add'.mpr hlen)
        rw [List.append_assoc, List.take_append_drop] at hloop
        exact ⟨left, hsuf.trans (List.suffix_cons _ _), hloop⟩
      | hardError =>
        rw [List.count_cons_self] at herr
        rw [List.map_cons, List.sum_cons, SinkAnswer.taken, Nat.zero_add] at htaken
        have hlim : ¬ limit < errors + 1 := by omega
        obtain ⟨left, hsuf, hloop⟩ := ih out hrest (errors := errors + 1) (by omega) htaken
        exact ⟨left, hsuf.trans (List.suffix_cons _ _), (if_neg hlim).trans hloop⟩
      | stalled => exact absurd rfl hd

/-- An answer that takes nothing for ever, met before the run is written. -/
theorem sinkLoop_stalls {limit : Nat} {pre post : List SinkAnswer} {rest : Bytes} (hpre : .stalled ∉ pre)
    (herr : pre.count .hardError ≤ limit) (htaken : (pre.map SinkAnswer.taken).sum < rest.length) :
    sinkLoop limit (pre ++ .stalled :: post) rest [] 0 = .stalled := by
  rw [sinkLoop_append _ [] hpre ((Nat.zero_add _).le.trans herr) htaken]
  obtain ⟨b, bs, hb⟩ := List.exists_cons_of_ne_nil (List.ne_nil_of_length_pos
    (List.length_drop ▸ Nat.sub_pos_of_lt htaken : 0 < (rest.drop (pre.map SinkAnswer.taken).sum).length))
  rw [hb]
  rfl

theorem live_of_running {s : State} (ha : s.alive = true) (hh : s.halted = false) : s.live = true := by
  rw [State.live, ha, hh]
  rfl

/-- Settles O47: the loop over the answers before the one that decides. -/
theorem phyWriteRetriesWithinTheLimit : Obligations.PhyWriteRetriesWithinTheLimit := by
  intro bs s pre post ha hh hpre
  have hexec : exec (.phyWrite bs) s = (writeSink bs s).outcome .done := if_pos (live_of_running ha hh)
  rw [hexec, writeSink]
  refine ⟨fun hds herr htaken => ?_, fun hds herr htaken => ?_, fun hds herr htaken => ?_⟩
  · obtain ⟨left, hsuf, hloop⟩ := sinkLoop_completes [] hpre ((Nat.zero_add _).le.trans herr) htaken
    refine ⟨left, hds ▸ hsuf, ?_⟩
    rw [hds, hloop]
    rfl
  · have hlen : (bs.take (pre.map SinkAnswer.taken).sum).length = (pre.map SinkAnswer.taken).sum :=
      List.length_take_of_le htaken.le
    rw [hds, ← herr, sinkLoop_fails hpre htaken]
    simp only [hlen, raiseFault_of_fatal (show fatal (.write _) = true from rfl)]
    rfl
  · rw [hds, sinkLoop_stalls hpre herr htaken]
    rfl

/-! ### The chain (R391 to R394) -/

theorem kindAfter_split {k : NodeKind} {pre : List NodeKind} (h : k ∉ pre) (post : List NodeKind) :
    kindAfter (pre ++ k :: post) k = post.head? := by
  rw [kindAfter, firstOf_split h, Option.bind_some, chainNext]
  cases post with
  | nil => rw [if_neg (by simp)]; rfl
  | cons j post =>
    rw [if_pos (by simp), Option.bind_some, List.getElem?_append_right (Nat.le_succ _), Nat.succ_eq_add_one,
      Nat.add_sub_cancel_left]
    rfl

theorem kindBefore_split {k : NodeKind} {post : List NodeKind} (h : k ∉ post) (pre : List NodeKind) :
    kindBefore (pre ++ k :: post) k = pre.getLast? := by
  rw [kindBefore, lastOf_split h, Option.bind_some, chainPrev, List.getLast?_eq_getElem?]
  cases hn : pre.length with
  | zero => rw [List.length_eq_zero_iff.mp hn]; rfl
  | succ n =>
    rw [if_pos (Nat.succ_pos n), Option.bind_some, List.getElem?_append_left (by omega)]

theorem firstOf_of_not_mem {k : NodeKind} {chain : List NodeKind} (h : k ∉ chain) : firstOf chain k = none :=
  List.findIdx?_eq_none_iff.mpr fun _ hx => beq_false_of_ne fun e => h (e ▸ hx)

theorem kindAfter_of_not_mem {k : NodeKind} {chain : List NodeKind} (h : k ∉ chain) : kindAfter chain k = none := by
  rw [kindAfter, firstOf_of_not_mem h]
  rfl

theorem kindBefore_of_not_mem {k : NodeKind} {chain : List NodeKind} (h : k ∉ chain) : kindBefore chain k = none := by
  have hrev := firstOf_of_not_mem (mt List.mem_reverse.mp h)
  rw [firstOf] at hrev
  rw [kindBefore, lastOf, hrev]
  rfl

theorem sendsToSink_iff (chain : List NodeKind) (k : NodeKind) :
    sendsToSink chain k = true ↔ kindAfter chain k = some .physicalSink := decide_eq_true_iff

theorem deliversToConsumer_iff (chain : List NodeKind) (k : NodeKind) :
    deliversToConsumer chain k = true ↔ kindBefore chain k = some .consumer := decide_eq_true_iff

theorem not_mem_replicate {k j : NodeKind} (h : k ≠ j) (n : Nat) : k ∉ List.replicate n j :=
  fun hm => h (List.eq_of_mem_replicate hm)

theorem upperTag_iff (tag : Tag) : upperTag tag = true ↔ tag ≠ .ack ∧ tag ≠ .link := by
  cases tag <;> decide

theorem exec_chainSendBytes_of_inService (bs : Bytes) {s : State} (h : s.inService) :
    exec (.chainSendBytes bs) s =
      if sendsToSink s.params.chain .bcsp then (writeSink bs s).outcome .done else refusedCall s :=
  if_pos (bcspLive_of_inService h)

theorem exec_chainRecvFrame_of_inService (tag : Tag) (p : Bytes) {s : State} (h : s.inService) :
    exec (.chainRecvFrame tag p) s = if upperTag tag && deliversToConsumer s.params.chain .bcsp then
      .next ((s.emitUp ⟨tag, p⟩).answering .done) else refusedCall s :=
  if_pos (bcspLive_of_inService h)

/-- Settles O43: the place of a node with its neighbours, then the two calls to the ends. -/
theorem chainWalksToItsEnds : Obligations.ChainWalksToItsEnds := by
  constructor
  case left =>
    intro k j pre post chain n
    refine ⟨fun h => kindAfter_split h _, fun h => kindAfter_split h _, fun h => ?_,
      fun h => kindBefore_split (pre := []) h, fun h => kindAfter_split (not_mem_replicate h _) _, fun h => ?_,
      fun h => ⟨kindAfter_of_not_mem h, kindBefore_of_not_mem h⟩, sendsToSink_iff chain k,
      deliversToConsumer_iff chain k⟩
    · rw [List.append_cons, kindBefore_split h, List.getLast?_concat]
    · rw [List.append_cons, kindBefore_split (not_mem_replicate h _), List.getLast?_concat]
  case right =>
    intro bs tag s h
    rw [exec_chainSendBytes_of_inService bs h, exec_chainRecvFrame_of_inService tag bs h]
    refine ⟨fun hk hsink => ?_, fun hk => if_neg (mt (sendsToSink_iff _ _).mp hk), fun hk hack hlink => ?_, fun hn => ?_⟩
    · rw [if_pos ((sendsToSink_iff _ _).mpr hk), writeSink_perfect bs s hsink, ← hsink]
      rfl
    · rw [(upperTag_iff tag).mpr ⟨hack, hlink⟩, (deliversToConsumer_iff _ _).mpr hk]
      rfl
    · refine if_neg fun hc => ?_
      obtain ⟨htag, hdel⟩ := Bool.and_eq_true_iff.mp hc
      obtain ⟨hack, hlink⟩ := (upperTag_iff tag).mp htag
      rcases hn with hn | hn | hn
      · exact hn ((deliversToConsumer_iff _ _).mp hdel)
      · exact hack hn
      · exact hlink hn

end Sys2Proof.Machine
end

section
/-! The sizer and the H4 adapter (47_h4_sizer.md). -/

namespace Sys2Proof.Machine

/-! ### The sizer (R420) -/

theorem sizerLen_of_row {p : Params} {t : Byte} {tag : Tag} {row : SizerRow} (ht : h4Tag p t = some tag)
    (hr : sizerRow tag = some row) (h : Bytes) :
    sizerLen p t h = if h.length < row.hdrSize then .insufficientHeader
      else .len (row.hdrSize + (sizerField row h &&& row.lenMask).toNat) := by
  simp only [sizerLen, ht, hr]

/-- A code without a row is of unknown type, the vendor code among them. -/
theorem sizerLen_of_no_row {p : Params} {t : Byte} (ht : t ∉ ([0x01, 0x02, 0x04, 0x05] : Bytes)) (h : Bytes) :
    sizerLen p t h = .unknownType := by
  simp only [List.mem_cons, List.not_mem_nil, or_false, not_or] at ht
  obtain ⟨h1, h2, h4, h5⟩ := ht
  have htag : h4Tag p t = if p.h4VendorCode = some t then some .vnd else none :=
    (if_neg h1).trans ((if_neg h2).trans ((if_neg h4).trans (if_neg h5)))
  rw [sizerLen, htag]
  split
  next => rfl
  next tag htag =>
    split at htag
    · cases htag
      rfl
    · cases htag

theorem toNat_oneByteField : ∀ c : Byte, (c.setWidth 16 &&& 0x00FF).toNat = c.toNat := by
  decide +kernel

/-- A little-endian field of two bytes. -/
theorem toNat_twoByteField (c d : Byte) : (c.setWidth 16 ||| d.setWidth 16 <<< 8).toNat = c.toNat + 256 * d.toNat := by
  have hc := c.isLt
  have hd := d.isLt
  have hshift : (d.setWidth 16 <<< 8).toNat = 2 ^ 8 * d.toNat := by
    rw [BitVec.toNat_shiftLeft, BitVec.toNat_setWidth, Nat.shiftLeft_eq]
    omega
  have hlow : (c.setWidth 16).toNat = c.toNat := BitVec.toNat_setWidth_of_le (by decide)
  rw [BitVec.toNat_or, hshift, hlow, Nat.or_comm, ← Nat.two_pow_add_eq_or_of_lt hc]
  omega

theorem toNat_maskedField (x : BitVec 16) : (x &&& 0x3FFF).toNat = x.toNat % 16384 := by
  rw [BitVec.toNat_and]
  exact Nat.and_two_pow_sub_one_eq_mod x.toNat 14

theorem not_length_lt {α : Type} {h : List α} {n : Nat} (hn : n ≤ h.length) : ¬ h.length < n := Nat.not_lt.mpr hn

theorem sizerLen_cmd (p : Params) (a b c : Byte) (tl : Bytes) :
    sizerLen p 0x01 (a :: b :: c :: tl) = .len (3 + c.toNat) := by
  rw [sizerLen_of_row rfl rfl, if_neg (not_length_lt (Nat.le_add_left 3 tl.length))]
  exact congrArg (fun n => Sized.len (3 + n)) (toNat_oneByteField c)

theorem sizerLen_acl (p : Params) (a b c d : Byte) (tl : Bytes) :
    sizerLen p 0x02 (a :: b :: c :: d :: tl) = .len (4 + (c.toNat + 256 * d.toNat)) := by
  rw [sizerLen_of_row rfl rfl, if_neg (not_length_lt (Nat.le_add_left 4 tl.length))]
  have hmask : (c.setWidth 16 ||| d.setWidth 16 <<< 8) &&& (0xFFFF : BitVec 16) = c.setWidth 16 ||| d.setWidth 16 <<< 8 :=
    BitVec.and_allOnes
  exact congrArg (fun n => Sized.len (4 + n)) ((congrArg BitVec.toNat hmask).trans (toNat_twoByteField c d))

theorem sizerLen_evt (p : Params) (a b : Byte) (tl : Bytes) : sizerLen p 0x04 (a :: b :: tl) = .len (2 + b.toNat) := by
  rw [sizerLen_of_row rfl rfl, if_neg (not_length_lt (Nat.le_add_left 2 tl.length))]
  exact congrArg (fun n => Sized.len (2 + n)) (toNat_oneByteField b)

theorem sizerLen_iso (p : Params) (a b c d : Byte) (tl : Bytes) :
    sizerLen p 0x05 (a :: b :: c :: d :: tl) = .len (4 + (c.toNat + 256 * d.toNat) % 16384) := by
  rw [sizerLen_of_row rfl rfl, if_neg (not_length_lt (Nat.le_add_left 4 tl.length)), ← toNat_twoByteField c d,
    ← toNat_maskedField]
  rfl

theorem sizerLen_of_short {p : Params} {t : Byte} {tag : Tag} {row : SizerRow} (ht : h4Tag p t = some tag)
    (hr : sizerRow tag = some row) {h : Bytes} (hlen : h.length < row.hdrSize) :
    sizerLen p t h = .insufficientHeader :=
  (sizerLen_of_row ht hr h).trans (if_pos hlen)

theorem exec_sizerLen_of_live (t : Byte) (h : Bytes) {s : State} (ha : s.alive = true) (hh : s.halted = false) :
    exec (.sizerLen t h) s = .next (s.answering (.sized (sizerLen s.params t h))) :=
  onLive_of_live ha hh

/-- Settles O48: row by row, then the short headers and the codes without a row. -/
theorem sizerReadsTheLengthField : Obligations.SizerReadsTheLengthField := by
  intro t a b c d h tl s ha hh
  simp only [exec_sizerLen_of_live _ _ ha hh, sizerLen_cmd, sizerLen_acl, sizerLen_evt, sizerLen_iso]
  refine ⟨rfl, rfl, rfl, rfl, fun row hrow hlen => ?_, fun ht => by rw [sizerLen_of_no_row ht]; rfl⟩
  have hshort : sizerLen s.params row.1 h = .insufficientHeader := by
    simp only [List.mem_cons, List.not_mem_nil, or_false] at hrow
    rcases hrow with rfl | rfl | rfl | rfl
    · exact sizerLen_of_short (t := 0x01) rfl rfl hlen
    · exact sizerLen_of_short (t := 0x02) rfl rfl hlen
    · exact sizerLen_of_short (t := 0x04) rfl rfl hlen
    · exact sizerLen_of_short (t := 0x05) rfl rfl hlen
  rw [hshort]
  rfl

/-! ### The adapter (R422, R423) -/

theorem exec_h4SendFrame_of_no_code {tag : Tag} {s : State} (h : s.inH4Service) (hc : h4Code s.params tag = none)
    (p : Bytes) : exec (.h4SendFrame tag p) s = refusedCall s := by
  refine (if_pos (h4Live_of_inH4Service h)).trans ?_
  simp only [hc]

theorem exec_h4SendFrame_of_code {tag : Tag} {code : Byte} {s : State} (h : s.inH4Service)
    (hc : h4Code s.params tag = some code) (p : Bytes) : exec (.h4SendFrame tag p) s =
      if sendsToSink s.params.chain .h4Adapter then (writeSink (code :: p) s).outcome .done else refusedCall s := by
  refine (if_pos (h4Live_of_inH4Service h)).trans ?_
  simp only [hc]

/-- Settles O49: the code of each tag, then the three cases. -/
theorem h4SendWritesTheUnit : Obligations.H4SendWritesTheUnit := by
  intro p s h row hrow
  have hcode : h4Code s.params row.1 = row.2 := by
    simp only [List.mem_cons, List.not_mem_nil, or_false] at hrow
    rcases hrow with rfl | rfl | rfl | rfl | rfl | rfl | rfl <;> rfl
  refine ⟨fun hnone => exec_h4SendFrame_of_no_code h (hcode.trans hnone) p, fun code hsome hk hsink => ?_,
    fun code hsome hk => ?_⟩
  · rw [exec_h4SendFrame_of_code h (hcode.trans hsome), if_pos ((sendsToSink_iff _ _).mpr hk),
      writeSink_perfect _ s hsink, ← hsink]
    rfl
  · rw [exec_h4SendFrame_of_code h (hcode.trans hsome), if_neg (mt (sendsToSink_iff _ _).mp hk)]
    rfl

theorem exec_h4RecvBytes_of_inH4Service (bs : Bytes) {s : State} (h : s.inH4Service) :
    exec (.h4RecvBytes bs) s = .next ((h4Bytes bs s).answering (.count bs.length)) :=
  if_pos (h4Live_of_inH4Service h)

theorem h4Byte_of_unknown {s : State} {b t : Byte} {rest : Bytes} (hc : s.h4Collector ++ [b] = t :: rest)
    (hz : sizerLen s.params t rest = .unknownType) : h4Byte s b = s.withH4 [] := by
  simp only [h4Byte, hc, hz]

theorem h4Byte_of_short {s : State} {b t : Byte} {rest : Bytes} (hc : s.h4Collector ++ [b] = t :: rest)
    (hz : sizerLen s.params t rest = .insufficientHeader) : h4Byte s b = s.withH4 (t :: rest) := by
  simp only [h4Byte, hc, hz]

theorem h4Byte_of_other_length {s : State} {b t : Byte} {rest : Bytes} {n : Nat}
    (hc : s.h4Collector ++ [b] = t :: rest) (hz : sizerLen s.params t rest = .len n) (hn : rest.length ≠ n) :
    h4Byte s b = s.withH4 (t :: rest) := by
  have hlen : ¬ (t :: rest).length = 1 + n := by
    rw [List.length_cons]
    omega
  simp only [h4Byte, hc, hz, if_neg hlen]

theorem h4Byte_of_whole {s : State} {b t : Byte} {rest : Bytes} {tag : Tag} (hc : s.h4Collector ++ [b] = t :: rest)
    (hz : sizerLen s.params t rest = .len rest.length) (ht : h4Tag s.params t = some tag) :
    h4Byte s b = (recvFrameFrom .h4Adapter ⟨tag, rest⟩ s).withH4 [] := by
  have hlen : (t :: rest).length = 1 + rest.length := Nat.add_comm _ _
  simp only [h4Byte, hc, hz, if_pos hlen, ht]

/-- The byte that completes a unit, where the consumer is before the adapter. -/
theorem h4Byte_delivers {s : State} {b t : Byte} {rest : Bytes} {tag : Tag} (hc : s.h4Collector ++ [b] = t :: rest)
    (hz : sizerLen s.params t rest = .len rest.length) (ht : h4Tag s.params t = some tag)
    (hd : deliversToConsumer s.params.chain .h4Adapter = true) :
    h4Byte s b = { s with upRx := s.upRx ++ [⟨tag, rest⟩], h4Collector := [] } := by
  rw [h4Byte_of_whole hc hz ht, recvFrameFrom, if_pos hd]
  rfl

theorem h4Byte_answering (b : Byte) (s : State) (a : Answer) : h4Byte (s.answering a) b = (h4Byte s b).answering a := by
  obtain ⟨t, rest, hc, ⟨hz, e⟩ | ⟨hz, e⟩ | ⟨n, hz, hn, e⟩ | ⟨tag, hz, ht, e⟩⟩ := h4Byte_cases s b <;> rw [e]
  · exact h4Byte_of_unknown (by exact hc) hz
  · exact h4Byte_of_short (by exact hc) hz
  · exact h4Byte_of_other_length (by exact hc) hz hn.symm
  · exact (h4Byte_of_whole (s := s.answering a) hc hz ht).trans
      (congrArg (State.withH4 · []) (recvFrameFrom_answering .h4Adapter ⟨tag, rest⟩ s a))

theorem h4Bytes_answering (bs : Bytes) (s : State) (a : Answer) :
    h4Bytes bs (s.answering a) = (h4Bytes bs s).answering a := by
  induction bs generalizing s with
  | nil => rfl
  | cons b bs ih => exact (congrArg (h4Bytes bs) (h4Byte_answering b s a)).trans (ih (h4Byte s b))

theorem h4Bytes_append (x y : Bytes) (s : State) : h4Bytes (x ++ y) s = h4Bytes y (h4Bytes x s) := List.foldl_append

theorem inH4Service_recvFrameFrom (k : NodeKind) (u : QUnit) {s : State} (h : s.inH4Service) :
    (recvFrameFrom k u s).inH4Service := by
  rw [recvFrameFrom]
  split
  next => exact { h with }
  next => exact h

theorem inH4Service_h4Bytes (bs : Bytes) {s : State} (h : s.inH4Service) : (h4Bytes bs s).inH4Service :=
  h4Bytes_keeps (fun _ _ hs => { hs with }) (fun _ _ _ _ hs _ => inH4Service_recvFrameFrom _ _ hs) bs h

/-- The length field lies inside the header (R143). -/
theorem lenOff_lt_hdrSize {tag : Tag} {row : SizerRow} (hr : sizerRow tag = some row) :
    row.lenOff < row.hdrSize ∧ (row.wide = true → row.lenOff + 1 < row.hdrSize) := by
  cases tag <;> cases hr <;> decide

/-- A beginning that holds the header has the same length field. -/
theorem sizerField_append {tag : Tag} {row : SizerRow} (hr : sizerRow tag = some row) {pre : Bytes}
    (hpre : row.hdrSize ≤ pre.length) (post : Bytes) : sizerField row (pre ++ post) = sizerField row pre := by
  obtain ⟨hlow, hhigh⟩ := lenOff_lt_hdrSize hr
  have hget : ∀ i, i < row.hdrSize → (pre ++ post).getD i 0 = pre.getD i 0 :=
    fun i hi => List.getD_append _ _ _ _ (hi.trans_le hpre)
  rw [sizerField, sizerField, hget _ hlow]
  split
  next hwide => rw [hget _ (hhigh hwide)]
  next => rfl

/-- A proper beginning of a unit is not a unit: its header is short, or names another length. -/
theorem sizerLen_of_beginning {p : Params} {t b : Byte} {pre post : Bytes}
    (h : sizerLen p t (pre ++ b :: post) = .len (pre ++ b :: post).length) :
    sizerLen p t pre = .insufficientHeader ∨ ∃ n, sizerLen p t pre = .len n ∧ pre.length ≠ n := by
  cases ht : h4Tag p t with
  | none =>
    simp only [sizerLen, ht] at h
    cases h
  | some tag =>
    cases hr : sizerRow tag with
    | none =>
      simp only [sizerLen, ht, hr] at h
      cases h
    | some row =>
      rw [sizerLen_of_row ht hr] at h ⊢
      rcases Nat.lt_or_ge pre.length row.hdrSize with hlt | hle
      · exact .inl (if_pos hlt)
      · rw [if_neg (Nat.not_lt.mpr hle)]
        rw [if_neg (not_length_lt (hle.trans (List.length_append ▸ Nat.le_add_right _ _))), sizerField_append hr hle,
          Sized.len.injEq, List.length_append, List.length_cons] at h
        exact .inr ⟨_, rfl, by omega⟩

/-- Up to its last byte a unit only fills the collector. -/
theorem h4Bytes_of_beginning {s : State} {t b : Byte} {pre post : Bytes} (hempty : s.h4Collector = [])
    (hz : sizerLen s.params t (pre ++ b :: post) = .len (pre ++ b :: post).length) :
    h4Bytes (t :: pre) s = s.withH4 (t :: pre) := by
  induction pre using List.reverseRecOn generalizing b post with
  | nil =>
    have hc : s.h4Collector ++ [t] = [t] := by rw [hempty, List.nil_append]
    rcases sizerLen_of_beginning hz with hs | ⟨n, hs, hn⟩
    · exact h4Byte_of_short hc hs
    · exact h4Byte_of_other_length hc hs hn
  | append_singleton pre c ih =>
    have hprev := ih (b := c) (post := b :: post) (by rw [List.append_cons]; exact hz)
    rw [← List.cons_append, h4Bytes_append, hprev]
    rcases sizerLen_of_beginning hz with hs | ⟨n, hs, hn⟩
    · exact h4Byte_of_short (s := s.withH4 (t :: pre)) rfl hs
    · exact h4Byte_of_other_length (s := s.withH4 (t :: pre)) rfl hs hn

/-- A whole unit met with the collector empty goes up (R423). -/
theorem h4Bytes_of_unit {s : State} {t : Byte} {packet : Bytes} {tag : Tag} (hempty : s.h4Collector = [])
    (ht : h4Tag s.params t = some tag) (hz : sizerLen s.params t packet = .len packet.length)
    (hd : deliversToConsumer s.params.chain .h4Adapter = true) :
    h4Bytes (t :: packet) s = { s with upRx := s.upRx ++ [⟨tag, packet⟩] } := by
  rcases List.eq_nil_or_concat packet with rfl | ⟨pre, b, rfl⟩
  · refine (h4Byte_delivers (by rw [hempty, List.nil_append]) hz ht hd).trans ?_
    rw [← hempty]
  · rw [List.concat_eq_append] at hz ⊢
    rw [← List.cons_append, h4Bytes_append, h4Bytes_of_beginning hempty hz]
    refine (h4Byte_delivers (s := s.withH4 (t :: pre)) rfl hz ht hd).trans ?_
    rw [← hempty]
    rfl

/-- Settles O50: one byte by what the sizer says, then the run as a fold over its bytes. -/
theorem h4DeliversWholeUnits : Obligations.H4DeliversWholeUnits := by
  refine ⟨fun b t rest s h hc => ?oneByte, fun s h => ⟨fun x y => ?parts, fun t packet tag hempty ht hz hd => ?unit⟩⟩
  case oneByte =>
    have hexec : exec (.h4RecvBytes [b]) s = .next ((h4Byte s b).answering (.count 1)) :=
      exec_h4RecvBytes_of_inH4Service [b] h
    rw [hexec]
    refine ⟨fun hz => ?_, fun hz => ?_, fun n hz hn => ?_, fun tag hz ht hd => ?_⟩
    · rw [h4Byte_of_unknown hc hz]
      rfl
    · rw [h4Byte_of_short hc hz]
      rfl
    · rw [h4Byte_of_other_length hc hz hn]
      rfl
    · rw [h4Byte_delivers hc hz ht hd]
      rfl
  case parts =>
    have hx := inH4Service_h4Bytes x h
    refine ⟨_, _, exec_h4RecvBytes_of_inH4Service x h, exec_h4RecvBytes_of_inH4Service y (by exact { hx with }), ?_⟩
    rw [exec_h4RecvBytes_of_inH4Service _ h, h4Bytes_append, h4Bytes_answering, List.length_append]
    rfl
  case unit =>
    rw [exec_h4RecvBytes_of_inH4Service _ h, h4Bytes_of_unit hempty ht hz hd]
    rfl

end Sys2Proof.Machine
end

section
/-! RX.BYTES over the parts of a run, the bytes of PEER, and the receipt of one SLIP symbol (46_chain.md R396,
20_memory.md R94, 30_encoding.md R131, R147). -/

namespace Sys2Proof.Machine

/-! ### A run and its parts (R94) -/

theorem exec_rxBytes_of_inService (bs : Bytes) {s : State} (h : s.inService) :
    exec (.rxBytes bs) s = .next ((rxBytes bs s).answering (.count bs.length)) :=
  onBcsp_of_inService h

/-- The state after a scan, with the collector left at `buf`. -/
def State.scanned (s : State) (c : Collected) (buf : Option Bytes) : State := { s.afterScan c with collector := buf }

theorem rxBytes_of_open {bs : Bytes} {s : State} {c : Collected} (hh : s.halted = false)
    (hc : slipCollect s.allocDraws s.collector bs = c) (ho : c.completed = false) :
    rxBytes bs s = s.scanned c c.buf := by
  subst hc
  exact rxBytes_open bs s hh ho

theorem rxBytes_of_completed {bs : Bytes} {s : State} {c : Collected} (hh : s.halted = false)
    (hc : slipCollect s.allocDraws s.collector bs = c) (hd : c.completed = true) :
    rxBytes bs s = rxBytes c.rest (rxFrame (slipDecode (c.buf.getD [])) (s.scanned c none)) := by
  subst hc
  exact rxBytes_done bs s hh hd

/-- Two scans, one after the other, leave what one scan with their counts together leaves. -/
theorem scanned_scanned (s : State) (c c' : Collected) (n : Nat) (buf buf' : Option Bytes) :
    (s.scanned c buf).scanned c' buf' = s.scanned (c'.more n c.fails) buf' := by
  have hfaults : s.faults ++ List.replicate (c'.fails + c.fails) Report.alloc =
      s.faults ++ List.replicate c.fails .alloc ++ List.replicate c'.fails .alloc := by
    rw [Nat.add_comm, List.replicate_add, List.append_assoc]
  simp only [State.scanned, State.afterScan, raiseAllocs, Collected.more_fails, Collected.more_draws, hfaults]

/-- Where a run leaves the collector open, the run that follows is scanned on with it. -/
theorem rxBytes_append_of_open {x : Bytes} {s : State} {c : Collected} (y : Bytes) (hh : s.halted = false)
    (hc : slipCollect s.allocDraws s.collector x = c) (ho : c.completed = false) :
    rxBytes (x ++ y) s = rxBytes y (s.scanned c c.buf) := by
  have hscan := slipCollect_append_open s.allocDraws s.collector x y (hc ▸ ho)
  rw [hc] at hscan
  generalize hc' : slipCollect c.draws c.buf y = c' at hscan
  cases hd : c'.completed with
  | false =>
    rw [rxBytes_of_open hh hscan hd, rxBytes_of_open (s := s.scanned c c.buf) hh hc' hd, scanned_scanned]
    rfl
  | true =>
    rw [rxBytes_of_completed hh hscan hd, rxBytes_of_completed (s := s.scanned c c.buf) hh hc' hd, scanned_scanned]
    rfl

theorem rxBytes_append (x y : Bytes) (s : State) : rxBytes (x ++ y) s = rxBytes y (rxBytes x s) := by
  cases hh : s.halted with
  | true => rw [rxBytes_halted _ s hh, rxBytes_halted x s hh, rxBytes_halted y s hh]
  | false =>
    cases hd : (slipCollect s.allocDraws s.collector x).completed with
    | false => rw [rxBytes_append_of_open y hh rfl hd, rxBytes_of_open hh rfl hd]
    | true =>
      have hscan := slipCollect_append_done s.allocDraws s.collector x y hd
      have hshort := (slipCollect_spec s.allocDraws s.collector x).2.2.2.1 hd
      rw [rxBytes_of_completed hh hscan hd, rxBytes_of_completed hh rfl hd, ← rxBytes_append]
      rfl
termination_by x.length

/-- On a node that is there, halted or not, RX.BYTES leaves the run received, with some answer. -/
theorem exec_rxBytes_of_node {s : State} (ha : s.alive = true) (hn : .bcsp ∈ s.params.chain) (bs : Bytes) :
    ∃ a, exec (.rxBytes bs) s = .next ((rxBytes bs s).answering a) := by
  cases hh : s.halted with
  | false => exact ⟨_, exec_rxBytes_of_inService bs ⟨ha, hh, hn⟩⟩
  | true =>
    refine ⟨.notEnabled, ?_⟩
    rw [rxBytes_halted bs s hh]
    exact if_neg fun hlive => Bool.false_ne_true ((inService_of_bcspLive hlive).running.symm.trans hh)

theorem receiveRuns_eq (runs : List Bytes) {s : State} (ha : s.alive = true) (hn : .bcsp ∈ s.params.chain) :
    ∃ a, receiveRuns runs s = .next ((rxBytes runs.flatten s).answering a) := by
  induction runs generalizing s with
  | nil => exact ⟨s.answer, rfl⟩
  | cons run runs ih =>
    obtain ⟨a, he⟩ := exec_rxBytes_of_node ha hn run
    have k := (rxLoop_received run.length run s).1
    obtain ⟨b, hrest⟩ := ih (s := (rxBytes run s).answering a) (k.alive.trans ha) (k.params ▸ hn)
    refine ⟨b, ?_⟩
    simp only [receiveRuns, he]
    rw [hrest, rxBytes_answering, answering_answering, List.flatten_cons, rxBytes_append]

/-- Settles O45: run by run, each scanned on where the one before it stopped. -/
theorem fragmentationIsInvisible : Obligations.FragmentationIsInvisible := by
  intro runs s h
  obtain ⟨a, ha⟩ := receiveRuns_eq runs h.alive h.node
  exact ⟨_, _, ha, exec_rxBytes_of_inService _ h, rfl⟩

/-! ### One turn of the loop (R396) -/

/-- A completed scan holds a frame. -/
theorem slipCollect_completed_buf (ds : List Bool) (buf : Option Bytes) (bs : Bytes)
    (h : (slipCollect ds buf bs).completed = true) : ∃ f, (slipCollect ds buf bs).buf = some f := by
  induction bs generalizing ds buf with
  | nil => cases h
  | cons b bs ih =>
    rcases slipCollect_cons ds buf b bs with ⟨f, -, -, -, e⟩ | ⟨ds', buf', k, -, e, -⟩
    · rw [e]
      exact ⟨_, rfl⟩
    · rw [e bs] at h ⊢
      exact ih ds' buf' h

theorem inService_of_received {s t : State} (h : s.inService) (k : Received s t) (hh : t.halted = false) :
    t.inService :=
  ⟨k.alive.trans h.alive, hh, k.params.symm ▸ h.node⟩

/-- Settles O44: the scan that stays open, and the one that completes a frame. -/
theorem rxBytesReceivesFrameByFrame : Obligations.RxBytesReceivesFrameByFrame := by
  intro bs s s' c h hc hs'
  subst hs'
  rw [exec_rxBytes_of_inService bs h]
  refine ⟨fun ho => ?stays, fun hd => ?completes⟩
  case stays =>
    rw [rxBytes_of_open h.running hc.symm ho]
    rfl
  case completes =>
    obtain ⟨f, hf⟩ : ∃ f, c.buf = some f := hc ▸ slipCollect_completed_buf _ _ _ (hc ▸ hd)
    have hready : (s.scanned c none).inService := { h with }
    have hframe := exec_rxFrame_of_inService (slipDecode f) hready
    have k := rxFrame_received (slipDecode f) (s.scanned c none)
    rw [rxBytes_of_completed h.running hc.symm hd, hf, Option.getD_some]
    generalize rxFrame (slipDecode f) (s.scanned c none) = v at hframe k
    cases hh : v.halted with
    | false =>
      have hv : (v.answering .done).inService := inService_answering (inService_of_received hready k hh) .done
      refine ⟨f, v.answering .done, _, rfl, hframe, exec_rxBytes_of_inService c.rest hv, ?_,
        fun hhalt => absurd (hh.symm.trans hhalt) Bool.false_ne_true⟩
      rw [rxBytes_answering]
      rfl
    | true =>
      refine ⟨f, v.answering .done, _, rfl, hframe,
        turnedAway_of_not (Bool.eq_false_iff.mpr fun hlive => ?_), ?_, fun _ => rfl⟩
      · exact Bool.false_ne_true ((inService_of_bcspLive hlive).running.symm.trans hh)
      · rw [rxBytes_halted c.rest v hh]
        rfl

/-! ### PEER (R147) -/

theorem bcspFrame_ne_nil (seq ack : Count3) (crc reliable : Bool) (type : BitVec 4) (payload : Bytes) :
    bcspFrame seq ack crc reliable type payload ≠ [] := by
  rw [bcspFrame]
  split <;> exact List.cons_ne_nil _ _

/-- A non-empty frame on an idle line is received as that frame (R203, R396). -/
theorem rxBytes_slipEncode {s : State} (hh : s.halted = false) (hnone : s.collector = none) (hds : s.allocsSucceed)
    {frame : Bytes} (hf : frame ≠ []) (flow : Bool) :
    rxBytes (slipEncode frame flow) s =
      rxFrame frame { s with allocDraws := s.allocDraws.drop ((slipEncode frame flow).length - 2) } := by
  have hscan := slipCollect_slipEncode hds hf flow
  rw [← hnone] at hscan
  rw [rxBytes_of_completed hh hscan rfl, State.scanned, afterScan_of_no_fails rfl, Option.getD_some,
    slipDecode_slipEncode, ← hnone]
  rfl

/-- Settles O46: PEER is RX.BYTES of the frame's encoding, which the collector takes whole. -/
theorem peerSendsTheDescribedFrame : Obligations.PeerSendsTheDescribedFrame := by
  intro d s frame bs h _ hframe hbs
  subst hframe hbs
  have hpeer : exec (.peer d) s = .next ((rxBytes (peerBytes d) s).answering (.count (peerBytes d).length)) :=
    onBcsp_of_inService h
  refine ⟨⟨_, exec_rxBytes_of_inService _ h, hpeer⟩, fun hnone hds =>
    ⟨_, exec_rxFrame_of_inService _ (by exact { h with }), ?_⟩⟩
  rw [hpeer, peerBytes, rxBytes_slipEncode h.running hnone hds (bcspFrame_ne_nil _ _ _ _ _ _)]
  rfl

/-! ### One symbol (R131) -/

/-- What a symbol stands for on the line, and the data it is answered with. -/
theorem rxSymbol_of_inService (bs data : Bytes) {s : State} (h : s.inService) :
    rxSymbol bs data s = .next ((rxBytes bs s).answering (.symbol data)) :=
  if_pos (bcspLive_of_inService h)

/-- Bytes without sentinel are dropped where no frame is open. -/
theorem rxBytes_of_no_frame {s : State} (hh : s.halted = false) (hnone : s.collector = none) {bs : Bytes}
    (hbs : (0xC0 : Byte) ∉ bs) : rxBytes bs s = s := by
  have hscan := slipCollect_garbage s.allocDraws bs [] hbs
  rw [List.append_nil, slipCollect_nil, Collected.mk_more, ← hnone] at hscan
  rw [rxBytes_of_open hh hscan rfl, State.scanned, afterScan_of_no_fails rfl]

/-- Bytes without sentinel join the open frame. -/
theorem rxBytes_joins {s : State} (hh : s.halted = false) {f : Bytes} (hf : s.collector = some f)
    (hds : s.allocsSucceed) {bs : Bytes} (hbs : (0xC0 : Byte) ∉ bs) :
    rxBytes bs s = { s with collector := some (f ++ bs), allocDraws := s.allocDraws.drop bs.length } := by
  have hscan := slipCollect_appends hds hbs f
  rw [← hf] at hscan
  rw [rxBytes_of_open hh hscan rfl, State.scanned, afterScan_of_no_fails rfl]

theorem rxBytes_sentinel_opens {s : State} (hh : s.halted = false) (hnone : s.collector = none) :
    rxBytes [0xC0] s = { s with collector := some [0xC0] } := by
  have hscan : slipCollect s.allocDraws s.collector [0xC0] = ⟨some [0xC0], [], 1, false, s.allocDraws, 0⟩ := by
    rw [hnone]
    rfl
  rw [rxBytes_of_open hh hscan rfl, State.scanned, afterScan_of_no_fails rfl]

theorem rxBytes_sentinel_continues {s : State} (hh : s.halted = false) (hstart : s.collector = some [0xC0]) :
    rxBytes [0xC0] s = s := by
  have hscan : slipCollect s.allocDraws s.collector [0xC0] = ⟨s.collector, [], 1, false, s.allocDraws, 0⟩ := by
    rw [hstart]
    rfl
  rw [rxBytes_of_open hh hscan rfl, State.scanned, afterScan_of_no_fails rfl]

/-- A sentinel closes the open frame, which is decoded and received. -/
theorem rxBytes_sentinel_closes {s : State} (hh : s.halted = false) {body out : Bytes} (hne : body ≠ [])
    (hbody : s.collector = some ([0xC0] ++ body)) (hreads : SlipReads body out) :
    rxBytes [0xC0] s = rxFrame out { s with collector := none } := by
  have hscan := slipCollect_closes s.allocDraws (length_start_append_ne_one hne) []
  rw [← hbody] at hscan
  rw [rxBytes_of_completed hh hscan rfl, State.scanned, afterScan_of_no_fails rfl, Option.getD_some, slipDecode_frame,
    slipDecodeBody_of_slipReads hreads]
  rfl

theorem slipReads_badEsc {x : Byte} (hx : x ∉ ([0xC0, 0xDC, 0xDD, 0xDE, 0xDF] : Bytes)) :
    SlipReads [0xDB, x] [0xDB, x] := by
  simp only [List.mem_cons, List.not_mem_nil, or_false, not_or] at hx
  refine .unrecognised x [] [x] hx.2 ?_
  by_cases hb : x = 0xDB
  · subst hb
    exact .cutOff
  · exact .plain x [] [] hb .done

theorem badEscData_of_unrecognised {x : Byte} (hx : x ∉ ([0xC0, 0xDC, 0xDD, 0xDE, 0xDF] : Bytes)) :
    badEscData (some x) = [0xDB, x] := by
  have hsent : (some x : Option Byte) ≠ some Config.slipEnd := by
    rintro ⟨⟩
    exact hx (by decide)
  exact (if_neg hsent).trans (slipDecodeBody_of_slipReads (slipReads_badEsc hx))

/-- Settles O11: the bytes of a data symbol hold no sentinel; the sentinel opens, continues or closes. -/
theorem slipSymbolsReachTheCollector : Obligations.SlipSymbolsReachTheCollector := by
  refine ⟨fun s x b h hds hx hb row hrow => ?data, fun s h => ⟨fun hc => ?opens, fun hc => ?continues,
    fun body out hne hc hreads => ?closes, fun hc => ?badOpens, fun body out hds hc hreads => ?badCloses⟩⟩
  case data =>
    obtain ⟨hsent, hexec⟩ : (0xC0 : Byte) ∉ row.2.1 ∧ exec row.1 s = rxSymbol row.2.1 row.2.2 s := by
      simp only [List.mem_cons, List.not_mem_nil, or_false] at hrow
      rcases hrow with rfl | rfl | rfl | rfl | rfl | rfl | rfl
      · exact ⟨by decide, rfl⟩
      · exact ⟨by decide, rfl⟩
      · exact ⟨by decide, rfl⟩
      · exact ⟨by decide, rfl⟩
      · refine ⟨?_, congrArg (rxSymbol [0xDB, x] · s) (badEscData_of_unrecognised hx)⟩
        simp only [List.mem_cons, List.not_mem_nil, or_false, not_or] at hx
        exact fun hm => (List.mem_pair.mp hm).elim (by decide) (Ne.symm hx.1)
      · exact ⟨by decide, rfl⟩
      · exact ⟨fun hm => hb (List.mem_singleton.mp hm ▸ List.mem_cons_self), rfl⟩
    rw [hexec, rxSymbol_of_inService _ _ h]
    refine ⟨fun hc => ?_, fun f hc => ?_⟩
    · rw [rxBytes_of_no_frame h.running hc hsent]
      rfl
    · rw [rxBytes_joins h.running hc hds hsent]
      rfl
  case opens =>
    refine (rxSymbol_of_inService [0xC0] [] h).trans ?_
    rw [rxBytes_sentinel_opens h.running hc]
    rfl
  case continues =>
    refine (rxSymbol_of_inService [0xC0] [] h).trans ?_
    rw [rxBytes_sentinel_continues h.running hc]
    rfl
  case closes =>
    refine ⟨_, exec_rxFrame_of_inService out (by exact { h with }), ?_⟩
    refine (rxSymbol_of_inService [0xC0] [] h).trans ?_
    rw [rxBytes_sentinel_closes h.running hne hc hreads]
    rfl
  case badOpens =>
    refine (rxSymbol_of_inService ([0xDB] ++ [0xC0]) [0xDB] h).trans ?_
    rw [rxBytes_append, rxBytes_of_no_frame h.running hc (by decide), rxBytes_sentinel_opens h.running hc]
    rfl
  case badCloses =>
    refine ⟨_, exec_rxFrame_of_inService out (by exact { h with }), ?_⟩
    refine (rxSymbol_of_inService ([0xDB] ++ [0xC0]) [0xDB] h).trans ?_
    have hclose : rxBytes [0xC0]
        { s with collector := some ([0xC0] ++ body ++ [0xDB]), allocDraws := s.allocDraws.drop 1 } =
        rxFrame out { s with collector := none, allocDraws := s.allocDraws.drop 1 } :=
      rxBytes_sentinel_closes (by exact h.running) (List.append_ne_nil_of_right_ne_nil body (List.cons_ne_nil 0xDB []))
        (congrArg some (List.append_assoc [0xC0] body [0xDB])) hreads
    rw [rxBytes_append, rxBytes_joins h.running hc hds (by decide)]
    exact (congrArg (fun t : State => Host.Outcome.next (t.answering (.symbol [0xDB]))) hclose).trans rfl

end Sys2Proof.Machine
end

section
/-! The rows of the wire formats, received at the layer that decodes them (30_encoding.md R134, R137 to R142). -/

namespace Sys2Proof.Machine

/-- A header word with what follows it, as the frame of its bytes. -/
theorem rxHeaderWord_of_inService (type : BitVec 4) (h : HdrFields) (tail : Bytes) {s : State} (hs : s.inService) :
    rxHeaderWord type h tail s = .next ((rxFrame (headerBytes (headerWord h.checksum h.length type h.reliable
      h.crcPresent h.ack h.seq) ++ tail) s).answering .done) := by
  rw [headerBytes_headerWord]
  exact if_pos (bcspLive_of_inService hs)

/-- A payload that stands for a message is the dispatch of that message. -/
theorem rxLcPayload_of_lcBytes {m : LcMsg} {p : Bytes} (hp : lcBytes m = some p) {s : State} (hs : s.inService) :
    rxLcPayload p s = .next ((linkDispatch m s).answering .done) := by
  rw [rxLcPayload, lcDecode_of_lcBytes hp]
  exact onBcsp_of_inService hs

/-- A payload that is none of the messages' is unknown (R141). -/
theorem lcDecode_of_other {p : Bytes} (hp : p ∉ ([[0x01, 0x7E], [0x02, 0x7D], [0x03, 0xFC], [0x04, 0x7B], [0x05, 0xFA],
      [0x06, 0xF9], [0x07, 0x78]] : List Bytes)) (hcfg : ∀ d, p ≠ [0x03, 0xFC, d] ∧ p ≠ [0x04, 0x7B, d]) :
    lcDecode p = .unknown := by
  simp only [List.mem_cons, List.not_mem_nil, or_false, not_or] at hp
  obtain ⟨hsync, hsyncResp, hconf, hconfResp, hwakeup, hwoken, hsleep⟩ := hp
  by_contra hm
  have hbytes := lcBytes_lcDecode hm
  generalize lcDecode p = m at hm hbytes
  cases m with
  | unknown => exact hm rfl
  | sync => exact hsync (Option.some.inj hbytes).symm
  | syncResp => exact hsyncResp (Option.some.inj hbytes).symm
  | conf c =>
    cases c with
    | none => exact hconf (Option.some.inj hbytes).symm
    | some c => exact (hcfg c).1 (Option.some.inj hbytes).symm
  | confResp c =>
    cases c with
    | none => exact hconfResp (Option.some.inj hbytes).symm
    | some c => exact (hcfg c).2 (Option.some.inj hbytes).symm
  | wakeup => exact hwakeup (Option.some.inj hbytes).symm
  | woken => exact hwoken (Option.some.inj hbytes).symm
  | sleep => exact hsleep (Option.some.inj hbytes).symm

/-- Settles O51: format by format, each row by the receive operation of its layer. -/
theorem wireRowsAreReceived : Obligations.WireRowsAreReceived := by
  refine ⟨fun h tail s hs row hrow => ?bcsp, fun c s hs => ⟨fun row hrow => ?lc, fun p hp hcfg => ?lcOther⟩,
    fun t rest s hs row hrow => ?h4, fun window flow crc version s hs => ?cfg⟩
  case bcsp =>
    have hexec : exec row.2 s = rxHeaderWord row.1 h tail s := by
      simp only [List.mem_cons, List.not_mem_nil, or_false] at hrow
      rcases hrow with rfl | rfl | rfl | rfl | rfl | rfl | rfl | rfl | rfl | rfl | rfl | rfl | rfl | rfl | rfl | rfl <;>
        rfl
    exact ⟨_, exec_rxFrame_of_inService _ hs, hexec.trans (rxHeaderWord_of_inService row.1 h tail hs)⟩
  case lc =>
    obtain ⟨p, hp, hexec⟩ : ∃ p, lcBytes row.2 = some p ∧ exec row.1 s = rxLcPayload p s := by
      simp only [List.mem_cons, List.not_mem_nil, or_false] at hrow
      rcases hrow with rfl | rfl | rfl | rfl | rfl | rfl | rfl | rfl | rfl <;> exact ⟨_, rfl, rfl⟩
    exact ⟨_, exec_linkDispatch_of_inService row.2 hs, hexec.trans (rxLcPayload_of_lcBytes hp hs)⟩
  case lcOther =>
    refine (onBcsp_of_inService hs).trans ?_
    rw [lcDecode_of_other hp hcfg]
    rfl
  case h4 =>
    have hexec : exec row.2 s = rxH4 (row.1 :: rest) s := by
      simp only [List.mem_cons, List.not_mem_nil, or_false] at hrow
      rcases hrow with rfl | rfl | rfl | rfl | rfl <;> rfl
    exact ⟨_, exec_h4RecvBytes_of_inH4Service _ hs, hexec.trans (exec_h4RecvBytes_of_inH4Service _ hs)⟩
  case cfg =>
    rw [← cfgByte_layout]
    exact ⟨_, exec_linkEnterActive_of_inService (by exact { hs with }), onBcsp_of_inService hs⟩

end Sys2Proof.Machine
end
